-- ==== Sys2Proof/Word.lean ====
section
/-! DEFINITION. The block's value types: 00_scope.md R6 (`REG_W`, `KEY_UNIT`, `CMD_W`, `RSP_W`) and R7. -/

namespace Sys2Proof

/-- A generator register value: 32 bits, unsigned (R6 `REG_W`, R13). -/
abbrev Word := BitVec 32

/-- A key byte, message byte or keystream byte: 8 bits, unsigned (R6 `KEY_UNIT`, R9). -/
abbrev Byte := BitVec 8

/-- A command word: 16 bits, bit 15 most significant (R6 `CMD_W`, R35). -/
abbrev CmdWord := BitVec 16

/-- A response word: 10 bits (R6 `RSP_W`, R37). -/
abbrev RspWord := BitVec 10

end Sys2Proof
end

