-- ==== Sys2Proof/Syntax.lean ====
section
/-! DEFINITION. The block's commands: 30_encoding.md R39, one constructor per row of spec/opcode_table.json. -/

namespace Sys2Proof

/-- A legal command (R39, R40). The operand of KPUSH and XFORM is `IMM8`, used as is (R36); the other commands have
no operand (R35). -/
inductive Instr where
  /-- NOP: do nothing (R65). -/
  | nop
  /-- KCLR: clear the key store (R50). -/
  | kclr
  /-- KPUSH v: append one key byte (R51). -/
  | kpush (v : Byte)
  /-- SEED: derive a fresh generator state from the loaded key (R52). -/
  | seed
  /-- XFORM v: transform one message byte (R61). -/
  | xform (v : Byte)
deriving DecidableEq, Repr

end Sys2Proof
end

