-- ==== Sys2Proof/WellFormed.lean ====
section
/-! DEFINITION. Which command words are well formed: the opcode map of 30_encoding.md R39 as match and mask.
Every term of `Instr` is well formed by its type (an operand is a `Byte`, R36), so the check stands on the words
a host can send; the check on assembler lines stands in Machine/Assembler.lean. -/

namespace Sys2Proof

/-- One row of the opcode map (R39): a word w selects it when `w & mask == match`. -/
structure OpcodeRow where
  mnemonic : String
  pattern : CmdWord
  mask : CmdWord
deriving DecidableEq, Repr

/-- The rule of R39 for when a word selects a row. -/
def OpcodeRow.selects (r : OpcodeRow) (w : CmdWord) : Bool := w &&& r.mask == r.pattern

/-- The opcode map of R39. -/
def opcodeTable : List OpcodeRow :=
  [ { mnemonic := "NOP", pattern := 0x0000, mask := 0xffff },
    { mnemonic := "KCLR", pattern := 0x0100, mask := 0xffff },
    { mnemonic := "KPUSH", pattern := 0x0200, mask := 0xff00 },
    { mnemonic := "SEED", pattern := 0x0300, mask := 0xffff },
    { mnemonic := "XFORM", pattern := 0x0400, mask := 0xff00 } ]

/-- A word is legal when some row of the opcode map selects it (R39); every other word is illegal (R41). -/
def legalWord (w : CmdWord) : Bool := opcodeTable.any (·.selects w)

end Sys2Proof
end

