-- ==== Sys2Proof/Decode.lean ====
section
/-! DEFINITION. Decoding and encoding of command words: 30_encoding.md R35, R36, R39 to R44. -/

namespace Sys2Proof

/-- The field `OP`, bits 15:8 (R35). -/
def CmdWord.op (w : CmdWord) : Byte := w.extractLsb' 8 8

/-- The field `IMM8`, bits 7:0, used as is (R35, R36). -/
def CmdWord.imm (w : CmdWord) : Byte := w.extractLsb' 0 8

/-- Why a word is illegal: the two kinds of R41. An illegal word is no fault of the machine; the block answers it
with status ILLEGAL (R41, R69; assumption 13, DEDUCED, safe). -/
inductive IllegalWord where
  /-- `OP` in 0x05..0xff, reserved for future versions of the command set. -/
  | reservedOpcode
  /-- `OP` in {0x00, 0x01, 0x03} with `IMM8` other than 0x00. -/
  | operandNotZero
deriving DecidableEq, Repr

/-- A command without operand: legal only with `IMM8` = 0x00 (R40). -/
def bareCommand (w : CmdWord) (i : Instr) : Except IllegalWord Instr :=
  if CmdWord.imm w = 0x00 then .ok i else .error .operandNotZero

/-- The decoder, a total function on words (R40). -/
def decode (w : CmdWord) : Except IllegalWord Instr :=
  if CmdWord.op w = 0x00 then bareCommand w .nop
  else if CmdWord.op w = 0x01 then bareCommand w .kclr
  else if CmdWord.op w = 0x02 then .ok (.kpush (CmdWord.imm w))
  else if CmdWord.op w = 0x03 then bareCommand w .seed
  else if CmdWord.op w = 0x04 then .ok (.xform (CmdWord.imm w))
  else .error .reservedOpcode

/-- The encoder: `KPUSH v` is `0x0200 | v`, `XFORM v` is `0x0400 | v`, and the others are their one legal word
(R39, R44). -/
def encode : Instr → CmdWord
  | .nop => 0x0000
  | .kclr => 0x0100
  | .kpush v => 0x0200 ||| v.setWidth 16
  | .seed => 0x0300
  | .xform v => 0x0400 ||| v.setWidth 16

/-- The command word whose low `nbits` bits are those of `w`, the bits above being 0. A command is exactly one 16-bit
word (R43), so a longer one is none (assumption 10, DESIGN CHOICE, safe). -/
def tableWord (nbits w : Nat) : Option CmdWord :=
  if nbits ≤ 16 then some (BitVec.ofNat 16 (w % 2 ^ nbits)) else none

/-- What the decoder reads from a word given by its number, bit 0 least significant (R35; assumption 10, DESIGN CHOICE, safe). -/
def decodeTableWord (nbits w : Nat) : Option Instr :=
  match tableWord nbits w with
  | some word => (decode word).toOption
  | none => none

end Sys2Proof
end

