-- ==== Sys2Proof/Config.lean ====
section
/-! DEFINITION. The block's configuration switches and the free values of its implementation: 00_scope.md R6.
The values this hardware takes for the switches stand in Machine/Rom.lean. -/

namespace Sys2Proof

/-- `CRYPTO_BIT_TIMING` (R6, R58): which values of b and c form a keystream bit. -/
inductive BitTiming where
  /-- END: the carries after the step's update. -/
  | endOfStep
  /-- START: the carries before the step's update. -/
  | startOfStep
deriving DecidableEq, Repr

/-- `SEED_FILL` (R6, R46): what fills the seed-buffer positions past the doubled key. -/
inductive SeedFill where
  /-- ZERO: the byte 0x00. -/
  | zero
  /-- CYCLIC: the key byte at the position modulo the key's length. -/
  | cyclic
deriving DecidableEq, Repr

/-- The two switches a model takes as configuration fields (R6, R26). -/
structure Config where
  bitTiming : BitTiming
  seedFill : SeedFill
deriving DecidableEq, Repr

/-- Free value (assumption 4, DESIGN CHOICE of form, safe): by how much `LAT_CMD` of an opcode exceeds its minimum of
one cycle. No rule depends on it (R6, R86). -/
opaque Config.latencyExtra (op : Byte) : Nat

/-- `LAT_CMD` of an opcode: an integer of at least 1, possibly different per opcode (R6). -/
def Config.latency (op : Byte) : Nat := Config.latencyExtra op + 1

/-- Free value (assumption 4, DESIGN CHOICE of form, safe): the draw that decides in which of the `LAT_CMD` cycles the
response of a command comes (R33 item 4). Unconstrained at every count. -/
opaque Config.responseDraw (count : Nat) : Nat

end Sys2Proof
end

