-- ==== Sys2Proof/Machine/Rom.lean ====
section
/-! DEFINITION. The constant ROM (10_state.md R20) and the values this hardware takes for its two switches
(00_scope.md R6). -/

namespace Sys2Proof.Machine

/-- Default value of A. -/
def defaultA : Word := 0x13579bdf
/-- Default value of B. -/
def defaultB : Word := 0x2468ace0
/-- Default value of C. -/
def defaultC : Word := 0xfdb97531

/-- Feedback mask `FB` of A. -/
def feedbackConstA : Word := 0x80000062
/-- Feedback mask `FB` of B. -/
def feedbackConstB : Word := 0x40000020
/-- Feedback mask `FB` of C. -/
def feedbackConstC : Word := 0x10000002

/-- Truncation mask `TR` of A. -/
def truncConstA : Word := 0x7fffffff
/-- Truncation mask `TR` of B. -/
def truncConstB : Word := 0x3fffffff
/-- Truncation mask `TR` of C. -/
def truncConstC : Word := 0x0fffffff

/-- Fixed-bits mask `FX` of A. -/
def fixedConstA : Word := 0x80000000
/-- Fixed-bits mask `FX` of B. -/
def fixedConstB : Word := 0xc0000000
/-- Fixed-bits mask `FX` of C. -/
def fixedConstC : Word := 0xf0000000

/-- The configuration of this hardware: `CRYPTO_BIT_TIMING` = END and `SEED_FILL` = ZERO, the values R6 lists first
(assumption 9, UNVERIFIED against the legacy cipher, N2; unsafe for claims about its output). -/
def thisHardware : Config := { bitTiming := .endOfStep, seedFill := .zero }

end Sys2Proof.Machine
end

