-- ==== Sys2Proof/Machine/State.lean ====
section
/-! DEFINITION. The machine's state as plain data (10_state.md, 30_encoding.md R33), its stops, and the state right
after reset (10_state.md R25, 70_reset_and_hazards.md R78). -/

namespace Sys2Proof.Machine

/-- The generator state: exactly three registers and two single-bit carries (R11, R13, R14). The
carries are kept between commands, as R14 allows (assumption 7, DEDUCED, unsafe only for claims about them). -/
structure GeneratorState where
  /-- A. -/
  regA : Word
  /-- B. -/
  regB : Word
  /-- C. -/
  regC : Word
  /-- b. -/
  carryB : Bool
  /-- c. -/
  carryC : Bool
deriving DecidableEq, Repr

/-- The outstanding command (R33 items 2 to 4): the response it will give, and how many cycles remain before
`rsp_valid` rises. A command executed at the transaction level has `wait` 0 (R86; assumption 4, DESIGN CHOICE, safe). -/
structure Outstanding where
  word : RspWord
  wait : Nat
deriving DecidableEq, Repr

/-- The state of the machine: the block's own elements as R26 lists them (the generator's five in one record), the
outstanding command of R33, the input ports of R33 as the host drives them, and the model's two observers
(assumption 8, DEDUCED, safe; assumptions 2 and 4, DESIGN CHOICE). -/
structure State where
  /-- A, B, C, b, c (R13, R14). -/
  gen : GeneratorState
  /-- KEYBUF[0] to KEYBUF[7] (R16). -/
  keybuf : Vector Byte 8
  /-- KEYLEN, 0 to 8, 8 meaning "8 or more" (R17). -/
  keylen : Fin 9
  /-- SEEDED (R18). -/
  seeded : Bool
  /-- The command accepted and not yet answered, if any (R33 items 2 and 3). -/
  outstanding : Option Outstanding
  /-- The input port `rst` (R33). -/
  rst : Bool
  /-- The words the host has still to offer, in order: `cmd_valid` is 1 when there is one, and `cmd_word` is the
  first (R33). Words of several hosts are interleaved here (R31; assumption 14, DEDUCED, safe). -/
  offers : List CmdWord
  /-- The input port `rsp_ready` (R33). -/
  rspReady : Bool
  /-- MODEL's own: the responses that have transferred to the host, oldest first (R34, R87). -/
  received : List RspWord
  /-- MODEL's own: the count the free latency is applied to, advanced at every acceptance (assumption 4, DESIGN CHOICE, safe). -/
  draw : Nat
deriving DecidableEq, Repr

/-- What stops the machine: nothing. R70: the block has no trap mechanism, and a status other than OK is a defined
output of the step, not a fault (assumption 13, DEDUCED, safe). -/
inductive Fault : Type
deriving DecidableEq, Repr

/-- Instructions the model gives no meaning. -/
inductive Refusal where
  /-- Raised by an arm of `exec` for an instruction without a meaning, naming it. Safe: the model stops where the
  block goes on. No arm of `exec` raises it. -/
  | notModelled (mnemonic : String)
deriving DecidableEq, Repr

/-- The generator's reset values (R25). -/
def GeneratorState.reset : GeneratorState :=
  { regA := defaultA, regB := defaultB, regC := defaultC, carryB := false, carryC := false }

/-- The machine right after reset: R25's values and no command outstanding (R78). The host side holds rst low, offers
nothing and accepts responses (assumption 2, DESIGN CHOICE, unsafe). The state at power-up, before any reset, is any value
(assumption 6, DEDUCED, safe). -/
def State.reset : State :=
  { gen := GeneratorState.reset
    keybuf := Vector.replicate 8 0x00
    keylen := 0
    seeded := false
    outstanding := none
    rst := false
    offers := []
    rspReady := true
    received := []
    draw := 0 }

end Sys2Proof.Machine
end

