-- ==== Sys2Proof/Machine/Generator.lean ====
section
/-! DEFINITION. The keystream generator as functions of the generator state: 41_keystream_generator.md R54 to R58,
exactly as written (R60). -/

namespace Sys2Proof.Machine

/-- `shiftMask(x, mask) = (x >> 1) & mask` (R54). -/
def shiftMask (x mask : Word) : Word := (x >>> 1) &&& mask

/-- `feedbackMask(x, mask, fixedBits) = (x ^ (mask >> 1)) | fixedBits`; x is not shifted (R55). -/
def feedbackMask (x mask fixedBits : Word) : Word := (x ^^^ (mask >>> 1)) ||| fixedBits

/-- Bit 0 of a register, the bit every choice of the generator reads. -/
def lowBit (x : Word) : Bool := x.getLsbD 0

/-- `b <- B[0]`, `c <- C[0]`: the capture before the first clock step of a byte (R56). -/
def GeneratorState.capture (g : GeneratorState) : GeneratorState :=
  { g with carryB := lowBit g.regB, carryC := lowBit g.regC }

/-- C advances and c takes C's bit 0 from before (R57). -/
def GeneratorState.advanceC (g : GeneratorState) : GeneratorState :=
  if lowBit g.regC then
    { g with regC := feedbackMask g.regC feedbackConstC fixedConstC, carryC := true }
  else
    { g with regC := shiftMask g.regC truncConstC, carryC := false }

/-- B advances and b takes B's bit 0 from before (R57). -/
def GeneratorState.advanceB (g : GeneratorState) : GeneratorState :=
  if lowBit g.regB then
    { g with regB := feedbackMask g.regB feedbackConstB fixedConstB, carryB := true }
  else
    { g with regB := shiftMask g.regB truncConstB, carryB := false }

/-- One stop/go clock step (R57): A's bit 0 from before the step picks A's primitive and which of B and C advances. -/
def GeneratorState.clockStep (g : GeneratorState) : GeneratorState :=
  if lowBit g.regA then
    { g with regA := feedbackMask g.regA feedbackConstA fixedConstA }.advanceB
  else
    { g with regA := shiftMask g.regA truncConstA }.advanceC

/-- `b ^ c`. -/
def GeneratorState.carryXor (g : GeneratorState) : Bool := xor g.carryB g.carryC

/-- The keystream bit of a step, from the states before and after it (R58). -/
def keystreamBit (t : BitTiming) (before after : GeneratorState) : Bool :=
  match t with
  | .endOfStep => after.carryXor
  | .startOfStep => before.carryXor

/-- `(crypto << 1) | bit` on the 8-bit accumulator (R58). -/
def accumulate (crypto : Byte) (bit : Bool) : Byte := (crypto <<< 1) ||| (BitVec.ofBool bit).setWidth 8

/-- `n` clock steps, each adding its bit to the accumulator (the loop of R58). -/
def clockLoop (t : BitTiming) : Nat → Byte → GeneratorState → Byte × GeneratorState
  | 0, crypto, g => (crypto, g)
  | n + 1, crypto, g => clockLoop t n (accumulate crypto (keystreamBit t g g.clockStep)) g.clockStep

/-- NextByte (R58): capture, then 8 clock steps from an accumulator of 0x00; the byte and the state it leaves. -/
def nextByte (t : BitTiming) (g : GeneratorState) : Byte × GeneratorState := clockLoop t 8 0x00 g.capture

end Sys2Proof.Machine
end

