-- ==== Sys2Proof/Machine/Flags.lean ====
section
/-! DEFINITION. The one flag, SEEDED (10_state.md R18, R21), and the response statuses (60_exceptions.md R66). -/

namespace Sys2Proof.Machine

/-- SEEDED <- v (R18): a successful SEED sets it; KCLR, KPUSH and reset clear it. -/
def State.setSeeded (s : State) (v : Bool) : State := { s with seeded := v }

/-- The four status codes of a response (R66). A status is an output, not state (R21). -/
inductive Status where
  /-- The command completed. -/
  | ok
  /-- The word is illegal (R41). -/
  | illegal
  /-- SEED with KEYLEN = 0. -/
  | emptyKey
  /-- XFORM with SEEDED = 0. -/
  | notSeeded
deriving DecidableEq, Repr

/-- The field `STATUS` of a response (R37, R66). -/
def Status.code : Status → BitVec 2
  | .ok => 0
  | .illegal => 1
  | .emptyKey => 2
  | .notSeeded => 3

/-- The status a response word carries; every 2-bit value is one (R66). -/
def statusOf (r : RspWord) : Status :=
  if r.extractLsb' 8 2 = 0 then .ok
  else if r.extractLsb' 8 2 = 1 then .illegal
  else if r.extractLsb' 8 2 = 2 then .emptyKey
  else .notSeeded

end Sys2Proof.Machine
end

