-- ==== Sys2Proof/Machine/Operands.lean ====
section
/-! DEFINITION. The forms a data byte takes in the block: a seed byte widened to a register (40_key_seeder.md R48), a
message byte met with a keystream byte (42_transform.md R61), and the response word (30_encoding.md R37). -/

namespace Sys2Proof.Machine

/-- `zext_32` of a seed byte (R8, R48). -/
def seedOperand (b : Byte) : Word := b.setWidth 32

/-- The output byte of XFORM: the operand XOR the keystream byte (R36, R61). -/
def outputByte (v k : Byte) : Byte := v ^^^ k

/-- `rsp_word = {STATUS, DATA}` (R37). -/
def responseWord (st : Status) (data : Byte) : RspWord := st.code ++ data

/-- The field `DATA` of a response word (R37). -/
def dataOf (r : RspWord) : Byte := r.extractLsb' 0 8

end Sys2Proof.Machine
end

