-- ==== Sys2Proof/Machine/Seeder.lean ====
section
/-! DEFINITION. Seeding: the source's 12-byte buffer and the hardware's four seed bytes (40_key_seeder.md R46, R47), and
the seeding function (R48). -/

namespace Sys2Proof.Machine

/-- `FILL(key, j)` of R46 for a position past the doubled key. -/
def fillByte (f : SeedFill) (key : List Byte) (j : Nat) : Byte :=
  match f with
  | .zero => 0x00
  | .cyclic => key.getD (j % key.length) 0x00

/-- Position j of the source's seed buffer: the doubled key, then the fill (R46). The rule gives it for keys of
length 1 and more. -/
def seedBufByte (f : SeedFill) (key : List Byte) (j : Nat) : Byte :=
  match (key ++ key)[j]? with
  | some b => b
  | none => fillByte f key j

/-- The source's 12-byte seed buffer (R46). -/
def seedBuf (f : SeedFill) (key : List Byte) : List Byte := (List.range 12).map (seedBufByte f key)

/-- `SeedByte(j)` from the key store with n = KEYLEN (R47). Every index it reads is below 8. -/
def seedByte (f : SeedFill) (keybuf : Vector Byte 8) (n : Nat) (j : Fin 8) : Byte :=
  if j.val < n then keybuf[j.val]
  else if j.val < 2 * n then keybuf[j.val - n]'(by omega)
  else
    match f with
    | .zero => 0x00
    | .cyclic => keybuf[j.val % n]'(Nat.lt_of_le_of_lt (Nat.mod_le _ _) j.isLt)

/-- `register = (register << 8) | seedByte` (R48 step 3). -/
def feedSeedByte (r : Word) (b : Byte) : Word := (r <<< 8) ||| seedOperand b

/-- One register's seeding (R48 steps 2 to 4): start from its default, feed the bytes in order, and take the default
again when the result is zero. -/
def seedRegister (dflt : Word) (bytes : List Byte) : Word :=
  if bytes.foldl feedSeedByte dflt = 0 then dflt else bytes.foldl feedSeedByte dflt

/-- `Seed()` on the seed bytes at offsets 4 to 7, with b and c set to 0 (R48, R52). -/
def seedGenerator (bytes : List Byte) : GeneratorState :=
  { regA := seedRegister defaultA bytes
    regB := seedRegister defaultB bytes
    regC := seedRegister defaultC bytes
    carryB := false
    carryC := false }

/-- The four seed bytes SEED reads from the key store (R47, R48). -/
def storedSeedBytes (f : SeedFill) (s : State) : List Byte :=
  [seedByte f s.keybuf s.keylen 4, seedByte f s.keybuf s.keylen 5,
   seedByte f s.keybuf s.keylen 6, seedByte f s.keybuf s.keylen 7]

/-- The four seed bytes in the source's terms: positions 4 to 7 of the seed buffer (R46, R48). -/
def sourceSeedBytes (f : SeedFill) (key : List Byte) : List Byte := ((seedBuf f key).drop 4).take 4

end Sys2Proof.Machine
end

