-- ==== Sys2Proof/Machine/Ops.lean ====
section
/-! DEFINITION. The named operations on the state that the commands share. The block has no memory (R27), so none of
them takes an address; `fail` stands where a trap entry would (00_scope.md R9, 60_exceptions.md R70). -/

namespace Sys2Proof.Machine

/-- `respond(status, data)`: the command's one response word (R9, R37), written whatever was outstanding
(assumption 15, DEDUCED, safe for step and clockEdge). -/
def State.respond (s : State) (st : Status) (data : Byte) : State :=
  { s with outstanding := some { word := responseWord st data, wait := 0 } }

/-- `fail(status)`: `respond(status, 0x00)` and no state element written (R9, R69). -/
def State.fail (s : State) (st : Status) : State := s.respond st 0x00

/-- KEYBUF all 0x00 and KEYLEN 0 (R50). -/
def State.clearKeyStore (s : State) : State :=
  { s with keybuf := Vector.replicate 8 0x00, keylen := 0 }

/-- Append a key byte; a byte past the eighth is discarded (R51). -/
def State.appendKeyByte (s : State) (v : Byte) : State :=
  if h : s.keylen.val < 8 then
    { s with keybuf := s.keybuf.set s.keylen.val v h, keylen := ⟨s.keylen.val + 1, by omega⟩ }
  else s

/-- (A, B, C) <- Seed() from the key store, b and c <- 0 (R48, R52). -/
def State.reseed (cfg : Config) (s : State) : State :=
  { s with gen := seedGenerator (storedSeedBytes cfg.seedFill s) }

/-- The keystream byte the generator gives next (R58). -/
def State.keystreamByte (cfg : Config) (s : State) : Byte := (nextByte cfg.bitTiming s.gen).1

/-- The generator advanced by one keystream byte (R58). -/
def State.advance (cfg : Config) (s : State) : State := { s with gen := (nextByte cfg.bitTiming s.gen).2 }

end Sys2Proof.Machine
end

