-- ==== Sys2Proof/Machine/KeySeeder.lean ====
section
/-! DEFINITION. The meanings of the key commands KCLR, KPUSH and SEED: 40_key_seeder.md R50 to R52. -/

namespace Sys2Proof.Machine

/-- KCLR (R50). -/
def execKclr (s : State) : Host.Outcome State Fault Refusal :=
  .next ((s.clearKeyStore.setSeeded false).respond .ok 0x00)

/-- KPUSH v (R51). -/
def execKpush (v : Byte) (s : State) : Host.Outcome State Fault Refusal :=
  .next (((s.appendKeyByte v).setSeeded false).respond .ok 0x00)

/-- SEED (R52): EMPTY_KEY when KEYLEN = 0, else a fresh generator state and SEEDED <- 1. -/
def execSeed (s : State) : Host.Outcome State Fault Refusal :=
  if s.keylen = 0 then .next (s.fail .emptyKey)
  else .next (((s.reseed thisHardware).setSeeded true).respond .ok 0x00)

end Sys2Proof.Machine
end

