-- ==== Sys2Proof/Machine/System.lean ====
section
/-! DEFINITION. The meaning of the system command NOP: 43_system.md R65. -/

namespace Sys2Proof.Machine

/-- NOP (R65): respond(OK, 0x00), no state changes. -/
def execNop (s : State) : Host.Outcome State Fault Refusal := .next (s.respond .ok 0x00)

end Sys2Proof.Machine
end

