-- ==== Sys2Proof/Machine/Transform.lean ====
section
/-! DEFINITION. The meaning of the transform command XFORM: 42_transform.md R61. -/

namespace Sys2Proof.Machine

/-- XFORM v (R61): NOT_SEEDED when SEEDED = 0, else the operand XOR the next keystream byte, and the generator
advanced by one byte whatever v is. -/
def execXform (v : Byte) (s : State) : Host.Outcome State Fault Refusal :=
  if s.seeded then
    .next ((s.advance thisHardware).respond .ok (outputByte v (s.keystreamByte thisHardware)))
  else .next (s.fail .notSeeded)

end Sys2Proof.Machine
end

