-- ==== Sys2Proof/Machine/Dispatch.lean ====
section
/-! DEFINITION. The dispatch of a decoded command to its meaning, one arm per row of the opcode map (30_encoding.md R39). -/

namespace Sys2Proof.Machine

def exec (i : Instr) (s : State) : Host.Outcome State Fault Refusal :=
  match i with
  | .nop => Sys2Proof.Machine.execNop s
  | .kclr => Sys2Proof.Machine.execKclr s
  | .kpush v => Sys2Proof.Machine.execKpush v s
  | .seed => Sys2Proof.Machine.execSeed s
  | .xform v => Sys2Proof.Machine.execXform v s

end Sys2Proof.Machine
end

