-- ==== Sys2Proof/Machine/Port.lean ====
section
/-! DEFINITION. The command and response ports: 30_encoding.md R33, R34, 70_reset_and_hazards.md R78, R79, R84, R86.
Two views of one State: a transaction (one step per command, no cycles: R33, R87), which is the machine's step, and one
rising edge of `clk`, which adds the cycles of R33 item 4 (assumption 1, DEDUCED, safe). -/

namespace Sys2Proof.Machine

/-- `cmd_ready` (R33 item 3): 1 exactly when no command is outstanding and `rst = 0`. -/
def State.cmdReady (s : State) : Bool := !s.rst && s.outstanding.isNone

/-- `cmd_valid` (R33): the host offers a command word. -/
def State.cmdValid (s : State) : Bool := !s.offers.isEmpty

/-- `cmd_word` while `cmd_valid` is 1: steady until accepted (R33 item 5). -/
def State.cmdWord (s : State) : Option CmdWord := s.offers.head?

/-- `rsp_word` while `rsp_valid` is 1 (R33 item 4; R78: `rsp_valid = 0` while `rst = 1`). The spec gives it no value
at other times, and neither does the model (assumption 16, DEDUCED, safe). -/
def State.rspWord (s : State) : Option RspWord :=
  match s.rst, s.outstanding with
  | false, some o => if o.wait = 0 then some o.word else none
  | _, _ => none

/-- `rsp_valid` (R33). -/
def State.rspValid (s : State) : Bool := s.rspWord.isSome

/-- Reset (R78, R79): every state element takes its reset value and an outstanding command is abandoned. The host's own
side (its pins, its offers, the responses it already has) is not the block's and stays (assumption 5, DEDUCED, unsafe for claims about
later offers). -/
def State.applyReset (s : State) : State :=
  { s with
    gen := GeneratorState.reset
    keybuf := Vector.replicate 8 0x00
    keylen := 0
    seeded := false
    outstanding := none }

/-- The response of the outstanding command transfers to the host (R33 item 2). -/
def State.transfer (s : State) (o : Outstanding) : State :=
  { s with outstanding := none, received := s.received ++ [o.word] }

/-- The outstanding command waits for `n` cycles more before `rsp_valid` rises. -/
def State.setWait (s : State) (n : Nat) : State :=
  { s with outstanding := s.outstanding.map fun o => { o with wait := n } }

/-- The block runs an accepted word: the decoded command's meaning, or ILLEGAL with no state written (R34, R40, R41,
R68). -/
def runWord (w : CmdWord) (s : State) : Host.Outcome State Fault Refusal :=
  match decode w with
  | .ok i => exec i s
  | .error _ => .next (s.fail .illegal)

/-- The port after taking the offered word: the host offers its next one (R33 item 1). -/
def State.takeOffer (s : State) (rest : List CmdWord) : State :=
  { s with offers := rest, draw := s.draw + 1 }

/-- The block accepts the word on the port, if there is one, and runs it in the same step (R30, R33; assumption 3, DESIGN
CHOICE, unsafe only for registers seen while a command is outstanding). With
no word offered the block does nothing (R77). -/
def acceptOffer (s : State) : Host.Outcome State Fault Refusal :=
  match s.offers with
  | [] => .next s
  | w :: rest => runWord w (s.takeOffer rest)

/-- One transaction (R33, R87; assumption 1, DEDUCED, safe): under reset, R78; with a response the host does not accept, the block holds
for ever (R84; assumption 11, DEDUCED, safe); else the outstanding response transfers and the next offered command is accepted and
executed, up to its response. -/
def transaction (s : State) : Host.Outcome State Fault Refusal :=
  if s.rst then .next s.applyReset
  else
    match s.outstanding with
    | none => acceptOffer s
    | some o => if s.rspReady then acceptOffer (s.transfer o) else .next (s.setWait 0)

/-- The cycles between the acceptance of a command and the rise of `rsp_valid`, less one: `LAT_CMD` at most, one at
least, else free (R6, R33 item 4, R86; assumption 4, DESIGN CHOICE, safe). -/
def responseWait (w : CmdWord) (count : Nat) : Nat :=
  Config.responseDraw count % Config.latency (CmdWord.op w)

/-- A command transfers at this edge (R33 item 1). Its architectural effect takes place here, between acceptance and the
transfer of its response (R33, R86; assumption 3, DESIGN CHOICE). -/
def acceptAtEdge (s : State) : Host.Outcome State Fault Refusal :=
  match s.offers with
  | [] => .next s
  | w :: rest =>
    match runWord w (s.takeOffer rest) with
    | .next t => .next (t.setWait (responseWait w s.draw))
    | .fault f => .fault f
    | .refused r => .refused r

/-- One rising edge of `clk` (R33 items 1 to 4, R78, R79, R84). -/
def clockEdge (s : State) : Host.Outcome State Fault Refusal :=
  if s.rst then .next s.applyReset
  else
    match s.outstanding with
    | none => acceptAtEdge s
    | some o =>
      if o.wait = 0 then
        if s.rspReady then .next (s.transfer o) else .next s
      else .next (s.setWait (o.wait - 1))

/-- `n` rising edges with the host's pins as they are. -/
def clockEdges : Nat → State → Host.Outcome State Fault Refusal
  | 0, s => .next s
  | n + 1, s =>
    match clockEdge s with
    | .next t => clockEdges n t
    | .fault f => .fault f
    | .refused r => .refused r

/-- The host releases reset, has no response pending and offers `w` before all else: the state from which the next
transaction runs `w` (assumption 10, DESIGN CHOICE, safe). -/
def State.offerFirst (s : State) (w : CmdWord) : State :=
  { s with rst := false, outstanding := none, offers := w :: s.offers }

end Sys2Proof.Machine
end

