-- ==== Sys2Proof/Machine/Step.lean ====
section
/-! DEFINITION. The machine's step, one transaction (30_encoding.md R33, 70_reset_and_hazards.md R87), and the host's
placing of one command word. -/

namespace Sys2Proof.Machine

/-- One step of the machine: one command, or one reset, or nothing when the host offers nothing (R33, R77, R78, R87;
assumption 1, DEDUCED, safe). -/
def step (s : State) : Host.Outcome State Fault Refusal := transaction s

/-- `s` with the command word numbered `w` offered next (assumption 10, DESIGN CHOICE, safe): the block fetches nothing (R32), its commands
are offered on the command port. -/
def State.withFetchWord (s : State) (nbits w : Nat) : State :=
  match tableWord nbits w with
  | some word => s.offerFirst word
  | none => s

end Sys2Proof.Machine
end

