-- ==== Sys2Proof/Machine/Programs.lean ====
section
/-! DEFINITION. The pseudo-commands as command sequences (30_encoding.md R45) and the source's contracts `seed` and
`transform` in the source's own terms (40_key_seeder.md R46, R48, 42_transform.md R62), which the block has to meet
(00_scope.md R12). -/

namespace Sys2Proof.Machine

/-- `KS`: the raw keystream byte (R45). -/
def keystreamRead : List Instr := [.xform 0x00]

/-- `LOADKEY k0, ..., k(n-1)` (R45). -/
def loadKey (key : List Byte) : List Instr := .kclr :: key.map .kpush

/-- `TRANSFORM m0, ..., m(L-1)` (R45, R62); for the empty message `SEED` alone (R63). -/
def transformMessage (msg : List Byte) : List Instr := .seed :: msg.map .xform

/-- `seed(key)` of the source: the generator state from bytes 4 to 7 of the 12-byte seed buffer (R46, R48). -/
def sourceSeed (f : SeedFill) (key : List Byte) : GeneratorState := seedGenerator (sourceSeedBytes f key)

/-- The bytes of a message met with the keystream from a generator state, in order (R61, R62). -/
def transformFrom (t : BitTiming) : GeneratorState → List Byte → List Byte
  | _, [] => []
  | g, m :: ms => outputByte m (nextByte t g).1 :: transformFrom t (nextByte t g).2 ms

/-- The generator state after `n` keystream bytes. -/
def advanceBytes (t : BitTiming) : Nat → GeneratorState → GeneratorState
  | 0, g => g
  | n + 1, g => advanceBytes t n (nextByte t g).2

/-- `KS_n`: the keystream byte at position `n`, counted from 0 (R62). -/
def keystreamAt (t : BitTiming) (g : GeneratorState) (n : Nat) : Byte := (nextByte t (advanceBytes t n g)).1

/-- `transform(M, K)` of the source (R12, R62). -/
def sourceTransform (cfg : Config) (key msg : List Byte) : List Byte :=
  transformFrom cfg.bitTiming (sourceSeed cfg.seedFill key) msg

end Sys2Proof.Machine
end

