-- ==== Sys2Proof/Machine/Assembler.lean ====
section
/-! DEFINITION. The assembler from text to command words: 30_encoding.md R44 and R45 (assumption 12, DESIGN CHOICE, safe for the
block, for the corners the rules leave open). Text is a list of characters, one line at a time. -/

namespace Sys2Proof.Machine

/-- Why the assembler turns a line away; no rule names these cases (assumption 12, DESIGN CHOICE). -/
inductive AsmError where
  /-- A quotation mark that does not quote one character. -/
  | badQuote
  /-- The first token is no mnemonic of R44 or R45. -/
  | unknownMnemonic
  /-- The operands are not the ones the mnemonic takes. -/
  | badOperands
  /-- An operand that does not fit its field. -/
  | outOfRange
deriving DecidableEq, Repr

/-- One line, its numbers not yet checked against their fields (R44, R45). -/
inductive AsmLine where
  | blank
  | nop
  | kclr
  | kpush (v : Nat)
  | seed
  | xform (v : Nat)
  /-- `.word 0xNNNN`: an arbitrary word, legal or not. -/
  | word (w : Nat)
  | ks
  | loadkey (key : List Nat)
  | transform (msg : List Nat)
deriving DecidableEq, Repr

/-- An operand is an 8-bit value and a `.word` a 16-bit one (R44). -/
def AsmLine.wellFormed : AsmLine → Bool
  | .blank => true
  | .nop => true
  | .kclr => true
  | .kpush v => v < 256
  | .seed => true
  | .xform v => v < 256
  | .word w => w < 65536
  | .ks => true
  | .loadkey key => key.all (· < 256)
  | .transform msg => msg.all (· < 256)

/-- The commands a line stands for, for a line that is not `.word` (R44, R45). -/
def AsmLine.commands : AsmLine → List Instr
  | .blank => []
  | .nop => [.nop]
  | .kclr => [.kclr]
  | .kpush v => [.kpush (BitVec.ofNat 8 v)]
  | .seed => [.seed]
  | .xform v => [.xform (BitVec.ofNat 8 v)]
  | .word _ => []
  | .ks => keystreamRead
  | .loadkey key => loadKey (key.map (BitVec.ofNat 8))
  | .transform msg => transformMessage (msg.map (BitVec.ofNat 8))

/-- The words a line stands for (R44, R45). -/
def AsmLine.words (l : AsmLine) : List CmdWord :=
  match l with
  | .word w => [BitVec.ofNat 16 w]
  | other => other.commands.map encode

/-- A piece of a line. -/
inductive Token where
  | text (cs : List Char)
  | quoted (c : Char)
  | comma
deriving DecidableEq, Repr

/-- The quotation mark of a quoted character (R44). -/
def quoteMark : Char := Char.ofNat 39

/-- The token a run of characters makes, before the tokens that follow it. -/
def flushToken (run : List Char) (rest : List Token) : List Token :=
  if run.isEmpty then rest else .text run :: rest

/-- A line cut into tokens: whitespace separates, a comma stands alone, a comment runs from `;` to the end of the line, a
quoted character is one token whatever it quotes (R44). -/
def lexLine : List Char → List Char → Except AsmError (List Token)
  | [], run => .ok (flushToken run [])
  | ch :: rest, run =>
    if ch = ';' then .ok (flushToken run [])
    else if ch = quoteMark then
      match rest with
      | c :: q :: rest' => if q = quoteMark then (lexLine rest' []).map fun ts => flushToken run (.quoted c :: ts) else .error .badQuote
      | _ => .error .badQuote
    else if ch = ',' then (lexLine rest []).map fun ts => flushToken run (.comma :: ts)
    else if ch.isWhitespace then (lexLine rest []).map (flushToken run)
    else lexLine rest (run ++ [ch])

/-- The value of a digit in bases up to 16. -/
def digitValue (c : Char) : Nat :=
  if '0' ≤ c ∧ c ≤ '9' then c.toNat - 48
  else if 'a' ≤ c ∧ c ≤ 'f' then c.toNat - 87
  else if 'A' ≤ c ∧ c ≤ 'F' then c.toNat - 55
  else 16

/-- A number in a base, at least one digit long. -/
def numberValue (base : Nat) (cs : List Char) : Option Nat :=
  if cs.isEmpty ∨ ¬ cs.all (fun c => digitValue c < base) then none
  else some (cs.foldl (fun n c => n * base + digitValue c) 0)

/-- The digits of a hexadecimal literal `0x...`. -/
def hexDigits : List Char → Option (List Char)
  | '0' :: 'x' :: ds => some ds
  | _ => none

/-- The value of a hexadecimal literal. -/
def hexValue (cs : List Char) : Option Nat := (hexDigits cs).bind (numberValue 16)

/-- An operand: hexadecimal, decimal, or a quoted ASCII character meaning its code (R44). -/
def operandValue : Token → Option Nat
  | .text cs => (hexValue cs).orElse fun _ => numberValue 10 cs
  | .quoted c => if c.toNat < 128 then some c.toNat else none
  | .comma => none

/-- Operands separated by commas (R45). -/
def operandList : List Token → Option (List Nat)
  | [] => some []
  | [t] => (operandValue t).map ([·])
  | t :: .comma :: u :: rest =>
    match operandValue t, operandList (u :: rest) with
    | some v, some vs => some (v :: vs)
    | _, _ => none
  | _ => none

/-- A line whose mnemonic takes no operand. -/
def bareLine (l : AsmLine) (operands : List Token) : Except AsmError AsmLine :=
  if operands.isEmpty then .ok l else .error .badOperands

/-- A line whose mnemonic takes one operand. -/
def unaryLine (mk : Nat → AsmLine) : List Token → Except AsmError AsmLine
  | [t] =>
    match operandValue t with
    | some v => .ok (mk v)
    | none => .error .badOperands
  | _ => .error .badOperands

/-- A line whose mnemonic takes a list of operands. -/
def listLine (mk : List Nat → AsmLine) (operands : List Token) : Except AsmError AsmLine :=
  match operandList operands with
  | some vs => .ok (mk vs)
  | none => .error .badOperands

/-- The `.word` line: one hexadecimal literal. -/
def wordLine : List Token → Except AsmError AsmLine
  | [.text cs] =>
    match hexValue cs with
    | some w => .ok (.word w)
    | none => .error .badOperands
  | _ => .error .badOperands

/-- The line that a mnemonic, in lower case, and its operand tokens make (R44, R45). -/
def mnemonicLine (m : List Char) (operands : List Token) : Except AsmError AsmLine :=
  if m = ['n', 'o', 'p'] then bareLine .nop operands
  else if m = ['k', 'c', 'l', 'r'] then bareLine .kclr operands
  else if m = ['k', 'p', 'u', 's', 'h'] then unaryLine .kpush operands
  else if m = ['s', 'e', 'e', 'd'] then bareLine .seed operands
  else if m = ['x', 'f', 'o', 'r', 'm'] then unaryLine .xform operands
  else if m = ['.', 'w', 'o', 'r', 'd'] then wordLine operands
  else if m = ['k', 's'] then bareLine .ks operands
  else if m = ['l', 'o', 'a', 'd', 'k', 'e', 'y'] then listLine .loadkey operands
  else if m = ['t', 'r', 'a', 'n', 's', 'f', 'o', 'r', 'm'] then listLine .transform operands
  else .error .unknownMnemonic

/-- The line that tokens make; mnemonics are matched case-insensitively (R44). A line without tokens, blank or only a
comment, stands for no words (assumption 12, DESIGN CHOICE: R44 says nothing of such a line). -/
def parseTokens : List Token → Except AsmError AsmLine
  | [] => .ok .blank
  | .text m :: operands => mnemonicLine (m.map Char.toLower) operands
  | _ => .error .unknownMnemonic

/-- The words of one line of text (R44, R45). -/
def assembleLine (cs : List Char) : Except AsmError (List CmdWord) :=
  match lexLine cs [] with
  | .error e => .error e
  | .ok ts =>
    match parseTokens ts with
    | .error e => .error e
    | .ok l => if l.wellFormed then .ok l.words else .error .outOfRange

/-- The words of a program, one command per line (R44). -/
def assemble : List (List Char) → Except AsmError (List CmdWord)
  | [] => .ok []
  | l :: ls =>
    match assembleLine l, assemble ls with
    | .ok ws, .ok rest => .ok (ws ++ rest)
    | .error e, _ => .error e
    | _, .error e => .error e

/-- A hexadecimal digit character. -/
def hexChar (n : BitVec 4) : Char :=
  if n.toNat < 10 then Char.ofNat (48 + n.toNat) else Char.ofNat (87 + n.toNat)

/-- A byte as a hexadecimal literal of two digits. -/
def hexLiteral (v : Byte) : List Char :=
  ['0', 'x', hexChar (v.extractLsb' 4 4), hexChar (v.extractLsb' 0 4)]

/-- A command in the assembler syntax, its operand in hexadecimal (R44). -/
def instrText : Instr → List Char
  | .nop => ['N', 'O', 'P']
  | .kclr => ['K', 'C', 'L', 'R']
  | .kpush v => ['K', 'P', 'U', 'S', 'H', ' '] ++ hexLiteral v
  | .seed => ['S', 'E', 'E', 'D']
  | .xform v => ['X', 'F', 'O', 'R', 'M', ' '] ++ hexLiteral v

end Sys2Proof.Machine
end

