-- ==== Sys2Proof/Safety.lean ====
section
/-! DEFINITION. The terms in which claims about the machine are made: the invariant of 10_state.md R23 with the rules that
go with it, the observation of a run (70_reset_and_hazards.md R87), and what the host cannot tell apart (10_state.md R14,
R25, 60_exceptions.md R72). -/

namespace Sys2Proof.Machine

/-- A response word the block may give: DATA is 0x00 unless the status is OK (R38). -/
def LegalResponse (r : RspWord) : Prop := statusOf r ≠ .ok → dataOf r = 0x00

/-- What every reachable state keeps: I1 of R23; KEYBUF past KEYLEN holds 0x00 (R16); once seeded, A, B and C are the
seeding of the key now in the key store, advanced by some number of keystream bytes (R18), b and c with them (R52, R58),
and A is not zero (R59 item 4); every response given is a legal one (R38). I2 of R23 stands in the type of KEYLEN. -/
structure BlockInvariant (s : State) : Prop where
  seeded_keylen : s.seeded = true → 1 ≤ s.keylen.val
  keybuf_tail : ∀ j : Fin 8, s.keylen.val ≤ j.val → s.keybuf[j.val] = 0x00
  seeded_gen : s.seeded = true →
    ∃ n, s.gen = advanceBytes thisHardware.bitTiming n (seedGenerator (storedSeedBytes thisHardware.seedFill s))
  seeded_regA : s.seeded = true → s.gen.regA ≠ 0
  outstanding_legal : ∀ o, s.outstanding = some o → LegalResponse o.word
  received_legal : ∀ r ∈ s.received, LegalResponse r

/-- The responses of all commands accepted so far, in order: those transferred, then the outstanding one, whether or not the
host will ever take it (R34). -/
def State.answered (s : State) : List RspWord := s.received ++ (s.outstanding.map (·.word)).toList

/-- The response words a run has produced: its observation, with the final state (R87). The outstanding response is produced
once `rsp_valid` and `rsp_ready` are both 1; while the host withholds `rsp_ready` it is not (R84, R87; assumption 17,
DEDUCED, safe). -/
def State.produced (s : State) : List RspWord := s.received ++ if s.rspReady then s.rspWord.toList else []

/-- The run has ended: no command is left and the response to the last one has been produced (R87). -/
def State.runEnded (s : State) : Bool := s.offers.isEmpty && (s.outstanding.isNone || (s.rspReady && s.rspValid))

/-- The commands of a list, one after another, by their meanings. -/
def execAll : List Instr → State → Host.Outcome State Fault Refusal
  | [], s => .next s
  | i :: is, s =>
    match exec i s with
    | .next t => execAll is t
    | .fault f => .fault f
    | .refused r => .refused r

/-- Two states the host cannot tell apart: equal in all but b and c, which every XFORM overwrites (R14), and, while
SEEDED = 0, A, B and C, which every SEED overwrites (R25). -/
structure Indistinguishable (s t : State) : Prop where
  same_rest : { s with gen := t.gen } = t
  same_regs : s.seeded = true → s.gen.regA = t.gen.regA ∧ s.gen.regB = t.gen.regB ∧ s.gen.regC = t.gen.regC

end Sys2Proof.Machine
end

