-- ==== Sys2Proof/Certificates/Slice0/Obligations.lean ====
section
/-! DEFINITION. The statements about the model, each a `Prop` for the provers. A docstring names the rule of spec/ that a
statement formalises, or says that it rests on a consequence the spec marks as derived or on an entry of the log. -/

open Sys2Proof Sys2Proof.Machine

/-! ### Encoding -/

/-- R39, R40: the decoder and the encoder are each other's inverse on the legal words, every operand included. -/
def Obligations.DecodeAndEncodeAreInverse : Prop :=
  (∀ i : Instr, decode (encode i) = .ok i) ∧ ∀ (w : CmdWord) (i : Instr), decode w = .ok i → encode i = w

/-- R40: the decoder, field by field, on every word `{op, imm}`. -/
def Obligations.DecoderIsTheOneOfTheSpec : Prop :=
  ∀ op imm : Byte,
    (decode (op ++ imm : CmdWord)).toOption =
      if op = 0x00 then (if imm = 0x00 then some .nop else none)
      else if op = 0x01 then (if imm = 0x00 then some .kclr else none)
      else if op = 0x02 then some (.kpush imm)
      else if op = 0x03 then (if imm = 0x00 then some .seed else none)
      else if op = 0x04 then some (.xform imm)
      else none

/-- R39: the opcode map row by row; the words the decoder accepts are those a row selects, there are 515 of them, each decodes to a
command of the mnemonic of its row, and no word selects two rows. -/
def Obligations.LegalWordsAreTheOpcodeMap : Prop :=
  opcodeTable =
    [⟨"NOP", 0x0000, 0xffff⟩, ⟨"KCLR", 0x0100, 0xffff⟩, ⟨"KPUSH", 0x0200, 0xff00⟩, ⟨"SEED", 0x0300, 0xffff⟩,
      ⟨"XFORM", 0x0400, 0xff00⟩] ∧
  (∀ (r : OpcodeRow) (w : CmdWord), r.selects w = true ↔ w &&& r.mask = r.pattern) ∧
  (∃ ws : List CmdWord, ws.Nodup ∧ ws.length = 515 ∧
    (∀ w, w ∈ ws ↔ ∃ r ∈ opcodeTable, r.selects w = true) ∧
    (∀ w, w ∈ ws ↔ legalWord w = true) ∧
    ∀ w, w ∈ ws ↔ ∃ i, decode w = .ok i) ∧
  (∀ w, ∀ r ∈ opcodeTable, ∀ r' ∈ opcodeTable, r.selects w = true → r'.selects w = true → r = r') ∧
  ∀ w i, decode w = .ok i →
    (i = .nop → w = 0x0000) ∧ (i = .kclr → w = 0x0100) ∧ (∀ v, i = .kpush v → w &&& 0xff00 = 0x0200) ∧
    (i = .seed → w = 0x0300) ∧ (∀ v, i = .xform v → w &&& 0xff00 = 0x0400)

/-- R39: words written out bit by bit from the opcode map decode to the commands they stand for. -/
def Obligations.SampleWordsDecodeRight : Prop :=
  decode 0b0000000000000000 = .ok .nop ∧ decode 0b0000000100000000 = .ok .kclr ∧
  decode 0b0000001001100001 = .ok (.kpush 0x61) ∧ decode 0b0000001011111111 = .ok (.kpush 0xff) ∧
  decode 0b0000001100000000 = .ok .seed ∧
  decode 0b0000010001000001 = .ok (.xform 0x41) ∧ decode 0b0000010000000000 = .ok (.xform 0x00)

/-- R41, R68, R69: an illegal word is one with OP in 0x05..0xff, or with OP in {0x00, 0x01, 0x03} and IMM8 not 0x00; the block
accepts it, writes no state element and answers 0x100, whatever its state; also when an accepted response has still to transfer, which
then transfers first (the order of a transaction is log entry 1's, the count draw log entry 4's). -/
def Obligations.IllegalWordAnswersIllegal : Prop :=
  ∀ op imm : Byte,
    ((∃ e, decode (op ++ imm : CmdWord) = .error e) ↔
      (0x05 ≤ op.toNat ∨ ((op = 0x00 ∨ op = 0x01 ∨ op = 0x03) ∧ imm ≠ 0x00))) ∧
    ∀ (s : State) (rest : List CmdWord), s.rst = false → s.offers = (op ++ imm : CmdWord) :: rest →
      (0x05 ≤ op.toNat ∨ ((op = 0x00 ∨ op = 0x01 ∨ op = 0x03) ∧ imm ≠ 0x00)) →
      (s.outstanding = none →
        step s = .next { s with
          offers := rest, draw := s.draw + 1, outstanding := some { word := 0x100, wait := 0 } }) ∧
      ∀ o, s.outstanding = some o → s.rspReady = true →
        step s = .next { s with
          received := s.received ++ [o.word], offers := rest, draw := s.draw + 1,
          outstanding := some { word := 0x100, wait := 0 } }

/-! ### The assembler -/

/-- R44: the text of every command, with its operand in hexadecimal, assembles to the command's word. -/
def Obligations.CommandTextAssemblesToItsWord : Prop := ∀ i : Instr, assembleLine (instrText i) = .ok [encode i]

/-- R45: the words the three pseudo-commands stand for, for every list of operands. -/
def Obligations.PseudoCommandsExpand : Prop :=
  AsmLine.words .ks = [0x0400] ∧
  (∀ key : List Byte, (AsmLine.loadkey (key.map BitVec.toNat)).wellFormed = true ∧
    (AsmLine.loadkey (key.map BitVec.toNat)).words = 0x0100 :: key.map (fun k => 0x0200 ||| k.setWidth 16)) ∧
  ∀ msg : List Byte, (AsmLine.transform (msg.map BitVec.toNat)).wellFormed = true ∧
    (AsmLine.transform (msg.map BitVec.toNat)).words = 0x0300 :: msg.map (fun m => 0x0400 ||| m.setWidth 16)

/-! ### Constants, parameters and response words -/

/-- R20: the constant ROM, with the column `FB >> 1`, which R20 marks as derived from R8. -/
def Obligations.ConstantRomIsTheOneOfTheSpec : Prop :=
  (defaultA = 0x13579bdf ∧ feedbackConstA = 0x80000062 ∧ feedbackConstA >>> 1 = 0x40000031 ∧
    truncConstA = 0x7fffffff ∧ fixedConstA = 0x80000000) ∧
  (defaultB = 0x2468ace0 ∧ feedbackConstB = 0x40000020 ∧ feedbackConstB >>> 1 = 0x20000010 ∧
    truncConstB = 0x3fffffff ∧ fixedConstB = 0xc0000000) ∧
  defaultC = 0xfdb97531 ∧ feedbackConstC = 0x10000002 ∧ feedbackConstC >>> 1 = 0x08000001 ∧
    truncConstC = 0x0fffffff ∧ fixedConstC = 0xf0000000

/-- R6: this hardware's two switches, and a latency of at least one cycle for every opcode (the form of the latency is log entry
4's). -/
def Obligations.ParametersOfThisHardware : Prop :=
  thisHardware.bitTiming = .endOfStep ∧ thisHardware.seedFill = .zero ∧ ∀ op : Byte, 1 ≤ Config.latency op

/-- R37, R66: `rsp_word = STATUS * 0x100 + DATA` with the codes 0 to 3, the fields read back, and every response word is one. -/
def Obligations.ResponseWordHoldsStatusAndData : Prop :=
  (∀ d : Byte, (responseWord .ok d).toNat = d.toNat ∧ (responseWord .illegal d).toNat = 0x100 + d.toNat ∧
    (responseWord .emptyKey d).toNat = 0x200 + d.toNat ∧ (responseWord .notSeeded d).toNat = 0x300 + d.toNat) ∧
  (∀ (st : Status) (d : Byte), statusOf (responseWord st d) = st ∧ dataOf (responseWord st d) = d) ∧
  ∀ r : RspWord, responseWord (statusOf r) (dataOf r) = r

/-! ### NOP and the key store -/

/-- R65: NOP answers 0x000 and changes nothing else, so a NOP between two XFORMs changes nothing; its one legal word. -/
def Obligations.NopOnlyResponds : Prop :=
  encode .nop = 0x0000 ∧
  (∀ imm : Byte, imm ≠ 0x00 → (decode (0x00#8 ++ imm : CmdWord)).toOption = none) ∧
  (∀ s : State, exec .nop s = .next { s with outstanding := some { word := 0x000, wait := 0 } }) ∧
  ∀ (s : State) (u v : Byte), execAll [.xform u, .nop, .xform v] s = execAll [.xform u, .xform v] s

/-- R50: KCLR clears KEYBUF, KEYLEN and SEEDED, answers 0x000 and leaves the rest; after it SEED answers 0x200; repeating it
changes nothing; its one legal word. -/
def Obligations.KclrClearsTheKeyStore : Prop :=
  encode .kclr = 0x0100 ∧
  (∀ imm : Byte, imm ≠ 0x00 → (decode (0x01#8 ++ imm : CmdWord)).toOption = none) ∧
  (∀ s : State, exec .kclr s =
    .next { s with
      keybuf := #v[0, 0, 0, 0, 0, 0, 0, 0], keylen := 0, seeded := false,
      outstanding := some { word := 0x000, wait := 0 } }) ∧
  (∀ s : State, execAll [.kclr, .seed] s =
    .next { s with
      keybuf := #v[0, 0, 0, 0, 0, 0, 0, 0], keylen := 0, seeded := false,
      outstanding := some { word := 0x200, wait := 0 } }) ∧
  ∀ s : State, execAll [.kclr, .kclr] s = execAll [.kclr] s

/-- R51: KPUSH v writes v at KEYBUF[KEYLEN] and increments KEYLEN while KEYLEN < 8, and discards v at 8; it clears SEEDED, answers
0x000, and leaves everything else. -/
def Obligations.KpushAppendsOneKeyByte : Prop :=
  ∀ v : Byte, encode (.kpush v) = 0x0200 ||| v.setWidth 16 ∧
    ∀ s : State, ∃ t : State, exec (.kpush v) s = .next t ∧
      t.seeded = false ∧ t.outstanding = some { word := 0x000, wait := 0 } ∧
      (s.keylen.val < 8 → t.keylen.val = s.keylen.val + 1 ∧
        ∀ j : Fin 8, t.keybuf[j.val] = if j.val = s.keylen.val then v else s.keybuf[j.val]) ∧
      (s.keylen.val = 8 → t.keylen = s.keylen ∧ t.keybuf = s.keybuf) ∧
      { t with keybuf := s.keybuf, keylen := s.keylen, seeded := s.seeded, outstanding := s.outstanding } = s

/-- R16, R17, R28 item 4: what LOADKEY leaves, from any state: KEYLEN is the key's length up to 8, KEYBUF the key's first bytes in
load order with 0x00 after them, SEEDED is 0, and the generator and the host's side are untouched. -/
def Obligations.LoadedKeyIsStoredInOrder : Prop :=
  ∀ (key : List Byte) (s : State), ∃ t : State, execAll (loadKey key) s = .next t ∧
    t.keylen.val = min key.length 8 ∧ t.seeded = false ∧
    (∀ j : Fin 8, t.keybuf[j.val] = key.getD j.val 0x00) ∧
    t = { s with
      keybuf := t.keybuf, keylen := t.keylen, seeded := false, outstanding := some { word := 0x000, wait := 0 } }

/-- R51, corner case (derived there from R47): bytes past the eighth of a key leave no trace in the machine. -/
def Obligations.KeyBytesPastTheEighthLeaveNoTrace : Prop :=
  ∀ (key extra : List Byte) (s : State), 8 ≤ key.length → execAll (loadKey (key ++ extra)) s = execAll (loadKey key) s

/-! ### Seeding -/

/-- R46: the source's seed buffer: 12 bytes, the doubled key, then the fill. -/
def Obligations.SeedBufferIsTheDoubledKey : Prop :=
  ∀ (f : SeedFill) (key : List Byte), key ≠ [] →
    (seedBuf f key).length = 12 ∧
    ∀ j, j < 12 →
      (seedBuf f key)[j]? =
        if j < key.length then key[j]?
        else if j < 2 * key.length then key[j - key.length]?
        else
          match f with
          | .zero => some 0x00
          | .cyclic => key[j % key.length]?

/-- R47: the hardware's seed byte by its three cases, and its agreement with the source's seed buffer for every non-empty key loaded
by LOADKEY, for both fills. -/
def Obligations.StoredSeedBytesAreTheSeedBuffers : Prop :=
  (∀ (buf : Vector Byte 8) (n : Nat) (j : Fin 8), 1 ≤ n → n ≤ 8 → 4 ≤ j.val →
    (j.val < n → ∀ f, some (seedByte f buf n j) = buf[j.val]?) ∧
    (n ≤ j.val → j.val < 2 * n → ∀ f, some (seedByte f buf n j) = buf[j.val - n]?) ∧
    (2 * n ≤ j.val → seedByte .zero buf n j = 0x00 ∧ some (seedByte .cyclic buf n j) = buf[j.val % n]?)) ∧
  ∀ (f : SeedFill) (key : List Byte) (s : State), key ≠ [] → ∃ t : State, execAll (loadKey key) s = .next t ∧
    ∀ j : Fin 8, 4 ≤ j.val → (seedBuf f key)[j.val]? = some (seedByte f t.keybuf t.keylen j)

/-- R48, R52: SEED answers 0x200 and writes nothing when KEYLEN = 0; else A, B and C take steps 2 to 4 of the seeding function, b and
c 0, SEEDED 1, and nothing else but the answer 0x000 changes; two SEEDs leave what one leaves (derived in R52 from R48); its one legal word. -/
def Obligations.SeedDerivesAFreshGeneratorState : Prop :=
  encode .seed = 0x0300 ∧
  (∀ imm : Byte, imm ≠ 0x00 → (decode (0x03#8 ++ imm : CmdWord)).toOption = none) ∧
  (∀ s : State, s.keylen = 0 → exec .seed s = .next { s with outstanding := some { word := 0x200, wait := 0 } }) ∧
  (∀ s : State, s.keylen ≠ 0 →
    let z := fun j : Fin 8 => (seedByte .zero s.keybuf s.keylen j).setWidth 32
    let feed := fun r : Word => (((r <<< 8 ||| z 4) <<< 8 ||| z 5) <<< 8 ||| z 6) <<< 8 ||| z 7
    let keep := fun d : Word => if feed d = 0 then d else feed d
    exec .seed s =
      .next { s with
        gen := { regA := keep 0x13579bdf, regB := keep 0x2468ace0, regC := keep 0xfdb97531, carryB := false, carryC := false }
        seeded := true
        outstanding := some { word := 0x000, wait := 0 } }) ∧
  ∀ s : State, execAll [.seed, .seed] s = execAll [.seed] s

/-- R49 (a consequence the spec derives): the closed form of the seeding, with the word W of each key length under ZERO fill. -/
def Obligations.SeedHasTheClosedForm : Prop :=
  ∀ s : State, s.keylen ≠ 0 →
    let k := fun j : Fin 8 => s.keybuf[j.val]
    let w : Word :=
      match s.keylen.val with
      | 1 => 0
      | 2 => 0
      | 3 => k 1 ++ k 2 ++ 0x00#8 ++ 0x00#8
      | 4 => k 0 ++ k 1 ++ k 2 ++ k 3
      | 5 => k 4 ++ k 0 ++ k 1 ++ k 2
      | 6 => k 4 ++ k 5 ++ k 0 ++ k 1
      | 7 => k 4 ++ k 5 ++ k 6 ++ k 0
      | _ => k 4 ++ k 5 ++ k 6 ++ k 7
    exec .seed s =
      .next { s with
        gen :=
          if w = 0 then { regA := 0x13579bdf, regB := 0x2468ace0, regC := 0xfdb97531, carryB := false, carryC := false }
          else { regA := w, regB := w, regC := w, carryB := false, carryC := false }
        seeded := true
        outstanding := some { word := 0x000, wait := 0 } }

/-- R23 (I3) and (I4), R64 item 5 (derived there): right after a SEED that answers OK no register is zero, and they are all equal or
all the defaults. -/
def Obligations.SeededRegistersAreNotZero : Prop :=
  ∀ s t : State, exec .seed s = .next t → s.keylen ≠ 0 →
    t.gen.regA ≠ 0 ∧ t.gen.regB ≠ 0 ∧ t.gen.regC ≠ 0 ∧
    ((t.gen.regA = t.gen.regB ∧ t.gen.regB = t.gen.regC) ∨
      (t.gen.regA = 0x13579bdf ∧ t.gen.regB = 0x2468ace0 ∧ t.gen.regC = 0xfdb97531))

/-- R52, R81: with a key loaded, a SEED after any XFORMs of a message restores exactly the state the message's own SEED left, so the
keystream restarts at byte 0. -/
def Obligations.SeedRestartsTheKeystream : Prop :=
  ∀ (s : State) (msg : List Byte), s.keylen ≠ 0 → execAll (transformMessage msg ++ [.seed]) s = execAll [.seed] s

/-! ### The generator -/

/-- R54: shiftMask, bit by bit for the three truncation masks, and on a zero register. -/
def Obligations.ShiftMaskTruncates : Prop :=
  (∀ x m : Word, shiftMask x m = (x >>> 1) &&& m) ∧
  (∀ (x : Word) (i : Nat),
    (shiftMask x truncConstA).getLsbD i = (decide (i < 31) && x.getLsbD (i + 1)) ∧
    (shiftMask x truncConstB).getLsbD i = (decide (i < 30) && x.getLsbD (i + 1)) ∧
    (shiftMask x truncConstC).getLsbD i = (decide (i < 28) && x.getLsbD (i + 1))) ∧
  ∀ m : Word, shiftMask 0 m = 0

/-- R55: feedbackMask with the register unshifted, its three uses with their constants, and their effect on bit 0 (derived there from R55 and
R20). -/
def Obligations.FeedbackMaskDoesNotShiftTheRegister : Prop :=
  (∀ x m f : Word, feedbackMask x m f = (x ^^^ (m >>> 1)) ||| f) ∧
  ∀ x : Word,
    (feedbackMask x feedbackConstA fixedConstA = (x ^^^ 0x40000031) ||| 0x80000000 ∧
      (feedbackMask x feedbackConstA fixedConstA).getLsbD 0 = !x.getLsbD 0) ∧
    (feedbackMask x feedbackConstB fixedConstB = (x ^^^ 0x20000010) ||| 0xc0000000 ∧
      (feedbackMask x feedbackConstB fixedConstB).getLsbD 0 = x.getLsbD 0) ∧
    (feedbackMask x feedbackConstC fixedConstC = (x ^^^ 0x08000001) ||| 0xf0000000 ∧
      (feedbackMask x feedbackConstC fixedConstC).getLsbD 0 = !x.getLsbD 0)

/-- R56: the capture loads both carries from bit 0 of B and C and changes nothing else; a keystream byte and the state after it do not
depend on what the carries held before (derived in R56 and R14). -/
def Obligations.CaptureLoadsBothCarries : Prop :=
  ∀ g : GeneratorState,
    g.capture = { g with carryB := g.regB.getLsbD 0, carryC := g.regC.getLsbD 0 } ∧
    ∀ (t : BitTiming) (b c : Bool), nextByte t { g with carryB := b, carryC := c } = nextByte t g

/-- R57: the clock step, in its four cases: what each register and carry becomes and what stays. -/
def Obligations.ClockStepFollowsTheStopGoRule : Prop :=
  ∀ g : GeneratorState,
    (g.regA.getLsbD 0 = false → g.regC.getLsbD 0 = false →
      g.clockStep =
        { g with regA := shiftMask g.regA 0x7fffffff, regC := shiftMask g.regC 0x0fffffff, carryC := false }) ∧
    (g.regA.getLsbD 0 = false → g.regC.getLsbD 0 = true →
      g.clockStep =
        { g with
          regA := shiftMask g.regA 0x7fffffff
          regC := feedbackMask g.regC 0x10000002 0xf0000000
          carryC := true }) ∧
    (g.regA.getLsbD 0 = true → g.regB.getLsbD 0 = false →
      g.clockStep =
        { g with
          regA := feedbackMask g.regA 0x80000062 0x80000000
          regB := shiftMask g.regB 0x3fffffff
          carryB := false }) ∧
    (g.regA.getLsbD 0 = true → g.regB.getLsbD 0 = true →
      g.clockStep =
        { g with
          regA := feedbackMask g.regA 0x80000062 0x80000000
          regB := feedbackMask g.regB 0x40000020 0xc0000000
          carryB := true })

/-- R28 item 2, R58: a keystream byte's bit 7 - i is b ^ c after step i under END and before it under START, and the generator is left
8 clock steps after the capture; with the rule's worked example. -/
def Obligations.KeystreamByteIsEightClockSteps : Prop :=
  (∀ (g : GeneratorState) (i : Nat), i < 8 →
    (nextByte .endOfStep g).1.getLsbD (7 - i) =
      xor (GeneratorState.clockStep^[i + 1] g.capture).carryB (GeneratorState.clockStep^[i + 1] g.capture).carryC ∧
    (nextByte .startOfStep g).1.getLsbD (7 - i) =
      xor (GeneratorState.clockStep^[i] g.capture).carryB (GeneratorState.clockStep^[i] g.capture).carryC) ∧
  (∀ (t : BitTiming) (g : GeneratorState), (nextByte t g).2 = GeneratorState.clockStep^[8] g.capture) ∧
  ∀ b c : Bool,
    nextByte .endOfStep { regA := 0x13579bdf, regB := 0x2468ace0, regC := 0xfdb97531, carryB := b, carryC := c } =
      (0xe0, { regA := 0x453579ac, regB := 0x02468ace, regC := 0x02b72ea6, carryB := false, carryC := false })

/-- R59 item 1 (derived there): bit 7 of every keystream byte is B[0] ^ C[0] from before the byte, under both timings. -/
def Obligations.FirstKeystreamBitIsKnownBefore : Prop :=
  ∀ (t : BitTiming) (g : GeneratorState), (nextByte t g).1.getLsbD 7 = xor (g.regB.getLsbD 0) (g.regC.getLsbD 0)

/-- R59 item 2 (derived there): the START byte from the END byte of the same state; both leave the same state. -/
def Obligations.StartByteFollowsFromEndByte : Prop :=
  ∀ g : GeneratorState,
    (nextByte .startOfStep g).1 = ((nextByte .endOfStep g).1 >>> 1) ||| ((nextByte .endOfStep g).1 &&& 0x80) ∧
    (nextByte .startOfStep g).2 = (nextByte .endOfStep g).2

/-- R59 item 3 (derived there): after a step that advances B the next step shifts A and leaves B and b alone, so B never advances at
two steps in a row. -/
def Obligations.RegisterBNeverAdvancesTwiceInARow : Prop :=
  ∀ g : GeneratorState, g.regA.getLsbD 0 = true →
    g.clockStep.regA.getLsbD 0 = false ∧
    g.clockStep.clockStep.regA = g.clockStep.regA >>> 1 ∧
    g.clockStep.clockStep.regB = g.clockStep.regB ∧ g.clockStep.clockStep.carryB = g.clockStep.carryB

/-- R59 item 4 (derived there): a non-zero A stays non-zero through any number of clock steps. -/
def Obligations.RegisterANeverBecomesZero : Prop :=
  ∀ (g : GeneratorState) (n : Nat), g.regA ≠ 0 → (GeneratorState.clockStep^[n] g).regA ≠ 0

/-- R59 item 5 (derived there): once B[0] = 1, B holds its value until it first advances and then alternates between two values, with
b = 1 at every advance, for ever. -/
def Obligations.RegisterBLocksOnceItsLowBitIsSet : Prop :=
  ∀ (g : GeneratorState) (n : Nat), g.regB.getLsbD 0 = true →
    let v1 := (g.regB ^^^ 0x20000010) ||| 0xc0000000
    let v2 := g.regB ||| 0xc0000000
    let h := GeneratorState.clockStep^[n] g
    (h.regB = g.regB ∨ h.regB = v1 ∨ h.regB = v2) ∧ v1 ≠ v2 ∧
    (h.regA.getLsbD 0 = true → h.clockStep.carryB = true ∧ h.clockStep.regB = if h.regB = v1 then v2 else v1) ∧
    (h.regA.getLsbD 0 = false → h.clockStep.regB = h.regB)

/-- R59 item 6 (derived there): a zero B or C stays zero for ever, and its carry is 0 at every refresh. -/
def Obligations.ZeroRegistersStayZero : Prop :=
  ∀ (g : GeneratorState) (n : Nat),
    (g.regB = 0 → (GeneratorState.clockStep^[n] g).regB = 0 ∧
      ((GeneratorState.clockStep^[n] g).regA.getLsbD 0 = true → (GeneratorState.clockStep^[n + 1] g).carryB = false)) ∧
    (g.regC = 0 → (GeneratorState.clockStep^[n] g).regC = 0 ∧
      ((GeneratorState.clockStep^[n] g).regA.getLsbD 0 = false → (GeneratorState.clockStep^[n + 1] g).carryC = false))

/-- R59 item 6 (derived there): the key 00 00 00 00 80 00 00 00 reaches B = C = 0 within 4 bytes and every keystream byte it yields is
0x00, under both timings. -/
def Obligations.DegenerateKeyYieldsAZeroKeystream : Prop :=
  ∀ (t : BitTiming) (n : Nat),
    keystreamAt t (sourceSeed .zero [0x00, 0x00, 0x00, 0x00, 0x80, 0x00, 0x00, 0x00]) n = 0x00 ∧
    (4 ≤ n →
      (advanceBytes t n (sourceSeed .zero [0x00, 0x00, 0x00, 0x00, 0x80, 0x00, 0x00, 0x00])).regB = 0 ∧
      (advanceBytes t n (sourceSeed .zero [0x00, 0x00, 0x00, 0x00, 0x80, 0x00, 0x00, 0x00])).regC = 0)

/-! ### The transform -/

/-- R61: XFORM answers 0x300 and writes nothing when SEEDED = 0; else it answers OK with v ^ k, k the keystream byte, and leaves the
generator 8 clock steps on and everything else as it was. -/
def Obligations.XformTransformsOneByte : Prop :=
  ∀ v : Byte, encode (.xform v) = 0x0400 ||| v.setWidth 16 ∧
    (∀ s : State, s.seeded = false → exec (.xform v) s = .next { s with outstanding := some { word := 0x300, wait := 0 } }) ∧
    ∀ s : State, s.seeded = true →
      exec (.xform v) s =
        .next { s with
          gen := GeneratorState.clockStep^[8] s.gen.capture
          outstanding := some { word := 0b00#2 ++ (v ^^^ (nextByte .endOfStep s.gen).1), wait := 0 } }

/-- R61, corner cases: XFORM 0x00 answers the keystream byte, XFORM of that byte answers 0x000, and whatever the operands the
generator goes the same way. -/
def Obligations.KeystreamDoesNotDependOnTheData : Prop :=
  ∀ s : State, s.seeded = true → ∀ u v : Byte, ∃ (t t' : State) (k : Byte),
    exec (.xform u) s = .next t ∧ exec (.xform v) s = .next t' ∧
    { t with outstanding := none } = { t' with outstanding := none } ∧
    t.outstanding = some { word := 0b00#2 ++ (u ^^^ k), wait := 0 } ∧
    t'.outstanding = some { word := 0b00#2 ++ (v ^^^ k), wait := 0 } ∧
    execAll keystreamRead s = .next { t with outstanding := some { word := 0b00#2 ++ k, wait := 0 } } ∧
    exec (.xform k) s = .next { t with outstanding := some { word := 0x000, wait := 0 } }

/-- R61, R83: from SEEDED = 0 (after reset, KCLR or KPUSH), whatever words the host offers, illegal ones and SEEDs included, as long as no
SEED meets a loaded key: SEEDED stays 0, the generator is not touched, every XFORM among them answers 0x300, and so does a further one,
with nothing else written; the answers are produced, the host accepting them (R87). -/
def Obligations.NoTransformWithoutASeed : Prop :=
  ∀ (s : State) (ws rest : List CmdWord), s.seeded = false → s.rst = false → s.rspReady = true → s.offers = ws ++ rest →
    (∀ (before after : List CmdWord) (u : State), ws = before ++ 0x0300 :: after →
      Sys2Proof.core.run before.length s = .next u → u.keylen = 0) →
    ∃ t : State, Sys2Proof.core.run ws.length s = .next t ∧ t.offers = rest ∧ t.seeded = false ∧ t.gen = s.gen ∧
      (∀ (k : Nat) (v : Byte), ws[k]? = some (0x0400 ||| v.setWidth 16) →
        t.answered[s.answered.length + k]? = some 0x300) ∧
      ((∀ o, s.outstanding = some o → o.wait = 0) → t.produced = t.answered) ∧
      ∀ v : Byte, exec (.xform v) t = .next { t with outstanding := some { word := 0x300, wait := 0 } }

/-- R62 (derived there): output byte j is message byte j XOR keystream byte j, under every configuration. -/
def Obligations.TransformIsBytewiseXor : Prop :=
  ∀ (cfg : Config) (key msg : List Byte) (j : Nat),
    (sourceTransform cfg key msg)[j]? =
      msg[j]?.map (· ^^^ keystreamAt cfg.bitTiming (sourceSeed cfg.seedFill key) j)

/-- R64 items 1 and 3 (derived there): the transform is its own inverse and keeps the length, under every configuration. -/
def Obligations.TransformIsAnInvolution : Prop :=
  ∀ (cfg : Config) (key msg : List Byte),
    sourceTransform cfg key (sourceTransform cfg key msg) = msg ∧ (sourceTransform cfg key msg).length = msg.length

/-- R81 (derived there): a seeded block that is offered the XFORMs of two messages with no SEED between them treats them as one stream:
every answer is OK, the first message meets the keystream from where the generator stands, the second from where the first left it, the
answers are produced (R87), and nothing but the generator and the port changes. -/
def Obligations.MessagesWithoutReseedAreOneStream : Prop :=
  ∀ (s : State) (m1 m2 : List Byte) (rest : List CmdWord),
    s.seeded = true → s.rst = false → s.rspReady = true →
    s.offers = (m1 ++ m2).map (fun m => encode (.xform m)) ++ rest →
    ∃ t : State, Sys2Proof.core.run (m1.length + m2.length) s = .next t ∧ t.offers = rest ∧
      t.answered = s.answered ++
        (transformFrom .endOfStep s.gen m1).map (fun b => (0b00#2 ++ b : RspWord)) ++
        (transformFrom .endOfStep (advanceBytes .endOfStep m1.length s.gen) m2).map (fun b => (0b00#2 ++ b : RspWord)) ∧
      ((∀ o, s.outstanding = some o → o.wait = 0) → t.produced = t.answered) ∧
      t.gen = advanceBytes .endOfStep (m1.length + m2.length) s.gen ∧
      t.keybuf = s.keybuf ∧ t.keylen = s.keylen ∧ t.seeded = true

/-- R12, R62: for every non-empty key and every message, the block that is offered LOADKEY and TRANSFORM answers OK to every command,
and its last answers carry the bytes of the source's transform; nothing more is taken from the host. -/
def Obligations.BlockComputesTheSourceTransform : Prop :=
  ∀ (s : State) (key msg : List Byte) (rest : List CmdWord),
    key ≠ [] → s.rst = false → s.rspReady = true → s.outstanding = none →
    s.offers = (loadKey key ++ transformMessage msg).map encode ++ rest →
    ∃ t : State, Sys2Proof.core.run (key.length + msg.length + 2) s = .next t ∧ t.offers = rest ∧
      t.produced = s.produced ++ List.replicate (key.length + 2) 0x000 ++
        (sourceTransform thisHardware key msg).map (fun b => (0b00#2 ++ b : RspWord))

/-- R53, R64 item 6: with an empty key store the commands of TRANSFORM answer 0x200 and then 0x300 for every byte, and the block's
state does not change. -/
def Obligations.EmptyKeyEnablesNoTransform : Prop :=
  ∀ (s : State) (msg : List Byte) (rest : List CmdWord),
    s.keylen = 0 → s.seeded = false → s.rst = false → s.rspReady = true → s.outstanding = none →
    s.offers = (transformMessage msg).map encode ++ rest →
    ∃ t : State, Sys2Proof.core.run (msg.length + 1) s = .next t ∧
      t.produced = s.produced ++ 0x200 :: List.replicate msg.length 0x300 ∧
      t.gen = s.gen ∧ t.keybuf = s.keybuf ∧ t.keylen = 0 ∧ t.seeded = false ∧ t.offers = rest

/-! ### Statuses and access -/

/-- R38, R66, R69: every command answers; a status other than OK comes with DATA 0x00 and no state element written, EMPTY_KEY only from
SEED with KEYLEN = 0, NOT_SEEDED only from XFORM with SEEDED = 0, ILLEGAL from no legal command; and DATA other than 0x00 only from an OK
XFORM. -/
def Obligations.FailingCommandWritesNoState : Prop :=
  ∀ (i : Instr) (s : State), ∃ (t : State) (r : RspWord), exec i s = .next t ∧ t.outstanding = some { word := r, wait := 0 } ∧
    (statusOf r ≠ .ok → dataOf r = 0x00 ∧ { t with outstanding := s.outstanding } = s) ∧
    (statusOf r = .emptyKey ↔ i = .seed ∧ s.keylen = 0) ∧
    (statusOf r = .notSeeded ↔ (∃ v, i = .xform v) ∧ s.seeded = false) ∧
    statusOf r ≠ .illegal ∧
    (dataOf r ≠ 0x00 → ∃ v, i = .xform v)

/-- R13, R16, R17, R18, R24: which commands can change which state element, and that none changes the host's side. -/
def Obligations.OnlyTheNamedCommandsWriteAnElement : Prop :=
  ∀ (i : Instr) (s t : State), exec i s = .next t →
    (t.gen ≠ s.gen → (i = .seed ∧ s.keylen ≠ 0) ∨ ((∃ v, i = .xform v) ∧ s.seeded = true)) ∧
    (t.keybuf ≠ s.keybuf → i = .kclr ∨ ∃ v, i = .kpush v ∧ s.keylen.val < 8) ∧
    (t.keylen ≠ s.keylen → i = .kclr ∨ ∃ v, i = .kpush v ∧ s.keylen.val < 8) ∧
    (s.seeded = false → t.seeded = true → i = .seed ∧ s.keylen ≠ 0) ∧
    (s.seeded = true → t.seeded = false → i = .kclr ∨ ∃ v, i = .kpush v) ∧
    t.rst = s.rst ∧ t.offers = s.offers ∧ t.rspReady = s.rspReady ∧ t.received = s.received ∧ t.draw = s.draw

/-! ### Reset and the port -/

/-- R25, R78: the state right after reset: the values of R25's table, and no command outstanding, as R78 says. The host's side of it is
log entry 2's choice and not stated here. -/
def Obligations.ResetValuesAreThoseOfTheSpec : Prop :=
  State.reset.gen.regA = 0x13579bdf ∧ State.reset.gen.regB = 0x2468ace0 ∧ State.reset.gen.regC = 0xfdb97531 ∧
  State.reset.gen.carryB = false ∧ State.reset.gen.carryC = false ∧
  (∀ j : Fin 8, State.reset.keybuf[j.val] = 0x00) ∧ State.reset.keylen = 0 ∧ State.reset.seeded = false ∧
  State.reset.outstanding = none

/-- R78, R79: under `rst = 1`, from any state (a power-up one included), the block takes its reset values and abandons an outstanding
command with no response; meanwhile `cmd_ready` and `rsp_valid` are 0, and with `rst = 0` after it `cmd_ready` is 1. That the host's side
(offers, rspReady, received, draw) stays is log entry 5's (DEDUCED). -/
def Obligations.ResetTakesEveryStateToTheResetValues : Prop :=
  ∀ s : State, s.rst = true →
    s.cmdReady = false ∧ s.rspValid = false ∧
    ∃ t : State, step s = .next t ∧ clockEdge s = .next t ∧
      t = { s with
        gen := State.reset.gen, keybuf := State.reset.keybuf, keylen := State.reset.keylen,
        seeded := State.reset.seeded, outstanding := none } ∧
      { t with rst := false }.cmdReady = true ∧ { t with rst := false }.rspValid = false

/-- R33 items 1 and 3: `cmd_ready` is 1 exactly when no command is outstanding and `rst = 0`, and an edge takes a word from the host
exactly when `cmd_valid` and `cmd_ready` are 1, and then the first word offered. -/
def Obligations.CommandTransfersOnValidAndReady : Prop :=
  ∀ s : State,
    (s.cmdReady = true ↔ s.rst = false ∧ s.outstanding = none) ∧
    ∃ t : State, clockEdge s = .next t ∧
      (s.cmdValid = true ∧ s.cmdReady = true →
        ∃ w, s.cmdWord = some w ∧ s.offers = w :: t.offers ∧ ∃ o, t.outstanding = some o) ∧
      (¬(s.cmdValid = true ∧ s.cmdReady = true) → t.offers = s.offers)

/-- R33 items 2 and 4: while `rsp_valid` is 1 an edge with `rsp_ready` = 1 transfers the response and an edge with `rsp_ready` = 0 changes
nothing, so `rsp_word` holds; without `rsp_valid` no response transfers. -/
def Obligations.ResponseHoldsUntilItTransfers : Prop :=
  ∀ s : State,
    (∀ r, s.rspWord = some r → s.rspReady = true →
      clockEdge s = .next { s with outstanding := none, received := s.received ++ [r] }) ∧
    (∀ r, s.rspWord = some r → s.rspReady = false → ∀ n, clockEdges n s = .next s) ∧
    (s.rspValid = false → ∃ t : State, clockEdge s = .next t ∧ t.received = s.received)

/-- R33 item 4 with the latency of log entry 4: counted from the accepting edge, `rsp_valid` rises after 1 to `LAT_CMD` cycles and not
earlier. -/
def Obligations.ResponseComesWithinTheLatency : Prop :=
  ∀ (s : State) (w : CmdWord) (rest : List CmdWord), s.cmdReady = true → s.offers = w :: rest →
    ∃ d, 1 ≤ d ∧ d ≤ Config.latency (CmdWord.op w) ∧
      (∃ t : State, clockEdges d s = .next t ∧ t.rspValid = true) ∧
      ∀ d', 1 ≤ d' → d' < d → ∃ t : State, clockEdges d' s = .next t ∧ t.rspValid = false ∧ t.cmdReady = false

/-- R34, R87: a command that is accepted takes exactly the first word offered and adds exactly one response, after all earlier ones; with
`rsp_ready` = 1 that response is produced, and the run has ended when no word is left; with `rsp_ready` = 0 it is outstanding and not
produced, and the run has not ended. When a response counts as produced is log entry 17's, the order within one step log entry 1's. -/
def Obligations.EveryCommandYieldsOneResponseInOrder : Prop :=
  ∀ (s : State) (w : CmdWord) (rest : List CmdWord), s.rst = false → (s.outstanding = none ∨ s.rspReady = true) →
    s.offers = w :: rest →
    ∃ (t : State) (r : RspWord), step s = .next t ∧ t.answered = s.answered ++ [r] ∧ t.received = s.answered ∧
      t.outstanding = some { word := r, wait := 0 } ∧ t.offers = rest ∧
      t.produced = (if s.rspReady then s.answered ++ [r] else s.received) ∧
      t.runEnded = (rest.isEmpty && s.rspReady) ∧
      t.rst = false ∧ t.rspReady = s.rspReady

/-- R84, R87, with log entry 11: a host that never accepts a response stops the block: however many steps or edges pass, no command is
accepted, the response keeps its word and nothing changes but its wait for `rsp_valid`; it is never produced, and the run does not end
(log entry 17). -/
def Obligations.WithheldResponseStopsTheBlock : Prop :=
  ∀ (s : State) (o : Outstanding), s.rst = false → s.outstanding = some o → s.rspReady = false → ∀ n,
    Sys2Proof.core.run (n + 1) s = .next { s with outstanding := some { o with wait := 0 } } ∧
    clockEdges n s = .next { s with outstanding := some { o with wait := o.wait - n } } ∧
    ∀ k, ({ s with outstanding := some { o with wait := k } } : State).cmdReady = false ∧
      ({ s with outstanding := some { o with wait := k } } : State).produced = s.received ∧
      ({ s with outstanding := some { o with wait := k } } : State).runEnded = false

/-- R77: with nothing outstanding and nothing offered, neither a step nor an edge changes anything. -/
def Obligations.IdleBlockKeepsItsState : Prop :=
  ∀ s : State, s.rst = false → s.outstanding = none → s.offers = [] → step s = .next s ∧ clockEdge s = .next s

/-- R33, R86, R87: every step of the machine is what the clocked block does in some positive number of edges, whatever the latencies: the
transaction model abstracts the port protocol and nothing else. It rests on log entries 1 (the transaction), 3 (the moment of the effect)
and 4 (the free latency). -/
def Obligations.StepRefinesToClockEdges : Prop :=
  ∀ s : State, ∃ (t : State) (n : Nat), 0 < n ∧ step s = .next t ∧ clockEdges n s = .next t

/-- R33, R40 with log entries 1 and 10: a step runs the command that the word on the port decodes to: the meaning itself, on the state
with that word taken (and a pending response transferred first); and so it does with a word placed by withFetchWord. -/
def Obligations.StepRunsTheDecodedCommand : Prop :=
  ∀ (s : State) (w : CmdWord) (i : Instr), decode w = .ok i →
    (∀ rest, s.rst = false → s.outstanding = none → s.offers = w :: rest →
      step s = exec i { s with offers := rest, draw := s.draw + 1 }) ∧
    (∀ rest o, s.rst = false → s.outstanding = some o → s.rspReady = true → s.offers = w :: rest →
      step s = exec i { s with
        outstanding := none, received := s.received ++ [o.word], offers := rest, draw := s.draw + 1 }) ∧
    step (s.withFetchWord 16 w.toNat) = exec i { s with rst := false, outstanding := none, draw := s.draw + 1 }

/-! ### Invariants and what the host can learn -/

/-- R23, R16, R18, R38: the reset state meets the invariant. -/
def Obligations.InvariantHoldsAtReset : Prop := BlockInvariant State.reset

/-- R23 (I1), R16, R18, R59 item 4, R38 (derived there): every step from any state that meets the invariant leaves one that meets it. In
particular, while SEEDED is 1 the generator is the seeding of the key now in the key store, advanced by some number of keystream bytes
(R18). -/
def Obligations.EveryStepKeepsTheInvariant : Prop :=
  ∀ s t : State, BlockInvariant s → step s = .next t → BlockInvariant t

/-- R23, R18 with R33: every clock edge, too, keeps the invariant. -/
def Obligations.EveryClockEdgeKeepsTheInvariant : Prop :=
  ∀ s t : State, BlockInvariant s → clockEdge s = .next t → BlockInvariant t

/-- R14, R25, R72 (derived there): two states that differ only in b and c, or before a SEED only in the generator, take steps to states
that again differ only so, and so give the same responses for ever. -/
def Obligations.HiddenStateNeverShowsInResponses : Prop :=
  ∀ (n : Nat) (s s' : State), Indistinguishable s s' →
    ∃ t t' : State, Sys2Proof.core.run n s = .next t ∧ Sys2Proof.core.run n s' = .next t' ∧
      Indistinguishable t t' ∧ t.answered = t'.answered ∧ t.produced = t'.produced
end

