-- ==== Sys2Proof/Laws/State.lean ====
section
/-! SUPPORT. One lemma per field per update of the state (and of the generator state), so that later proofs unfold no
record update. -/

namespace Sys2Proof.Machine

/-! ### State.setSeeded -/

@[simp] theorem State.setSeeded_gen (s : State) (v : Bool) :
    (s.setSeeded v).gen = s.gen := rfl
@[simp] theorem State.setSeeded_keybuf (s : State) (v : Bool) :
    (s.setSeeded v).keybuf = s.keybuf := rfl
@[simp] theorem State.setSeeded_keylen (s : State) (v : Bool) :
    (s.setSeeded v).keylen = s.keylen := rfl
@[simp] theorem State.setSeeded_seeded (s : State) (v : Bool) :
    (s.setSeeded v).seeded = v := rfl
@[simp] theorem State.setSeeded_outstanding (s : State) (v : Bool) :
    (s.setSeeded v).outstanding = s.outstanding := rfl
@[simp] theorem State.setSeeded_rst (s : State) (v : Bool) :
    (s.setSeeded v).rst = s.rst := rfl
@[simp] theorem State.setSeeded_offers (s : State) (v : Bool) :
    (s.setSeeded v).offers = s.offers := rfl
@[simp] theorem State.setSeeded_rspReady (s : State) (v : Bool) :
    (s.setSeeded v).rspReady = s.rspReady := rfl
@[simp] theorem State.setSeeded_received (s : State) (v : Bool) :
    (s.setSeeded v).received = s.received := rfl
@[simp] theorem State.setSeeded_draw (s : State) (v : Bool) :
    (s.setSeeded v).draw = s.draw := rfl

/-! ### State.respond -/

@[simp] theorem State.respond_gen (s : State) (st : Status) (d : Byte) :
    (s.respond st d).gen = s.gen := rfl
@[simp] theorem State.respond_keybuf (s : State) (st : Status) (d : Byte) :
    (s.respond st d).keybuf = s.keybuf := rfl
@[simp] theorem State.respond_keylen (s : State) (st : Status) (d : Byte) :
    (s.respond st d).keylen = s.keylen := rfl
@[simp] theorem State.respond_seeded (s : State) (st : Status) (d : Byte) :
    (s.respond st d).seeded = s.seeded := rfl
@[simp] theorem State.respond_outstanding (s : State) (st : Status) (d : Byte) :
    (s.respond st d).outstanding = some { word := responseWord st d, wait := 0 } := rfl
@[simp] theorem State.respond_rst (s : State) (st : Status) (d : Byte) :
    (s.respond st d).rst = s.rst := rfl
@[simp] theorem State.respond_offers (s : State) (st : Status) (d : Byte) :
    (s.respond st d).offers = s.offers := rfl
@[simp] theorem State.respond_rspReady (s : State) (st : Status) (d : Byte) :
    (s.respond st d).rspReady = s.rspReady := rfl
@[simp] theorem State.respond_received (s : State) (st : Status) (d : Byte) :
    (s.respond st d).received = s.received := rfl
@[simp] theorem State.respond_draw (s : State) (st : Status) (d : Byte) :
    (s.respond st d).draw = s.draw := rfl

/-! ### State.fail -/

@[simp] theorem State.fail_gen (s : State) (st : Status) :
    (s.fail st).gen = s.gen := rfl
@[simp] theorem State.fail_keybuf (s : State) (st : Status) :
    (s.fail st).keybuf = s.keybuf := rfl
@[simp] theorem State.fail_keylen (s : State) (st : Status) :
    (s.fail st).keylen = s.keylen := rfl
@[simp] theorem State.fail_seeded (s : State) (st : Status) :
    (s.fail st).seeded = s.seeded := rfl
@[simp] theorem State.fail_outstanding (s : State) (st : Status) :
    (s.fail st).outstanding = some { word := responseWord st 0x00, wait := 0 } := rfl
@[simp] theorem State.fail_rst (s : State) (st : Status) :
    (s.fail st).rst = s.rst := rfl
@[simp] theorem State.fail_offers (s : State) (st : Status) :
    (s.fail st).offers = s.offers := rfl
@[simp] theorem State.fail_rspReady (s : State) (st : Status) :
    (s.fail st).rspReady = s.rspReady := rfl
@[simp] theorem State.fail_received (s : State) (st : Status) :
    (s.fail st).received = s.received := rfl
@[simp] theorem State.fail_draw (s : State) (st : Status) :
    (s.fail st).draw = s.draw := rfl

/-! ### State.clearKeyStore -/

@[simp] theorem State.clearKeyStore_gen (s : State) :
    (s.clearKeyStore).gen = s.gen := rfl
@[simp] theorem State.clearKeyStore_keybuf (s : State) :
    (s.clearKeyStore).keybuf = Vector.replicate 8 0x00 := rfl
@[simp] theorem State.clearKeyStore_keylen (s : State) :
    (s.clearKeyStore).keylen = 0 := rfl
@[simp] theorem State.clearKeyStore_seeded (s : State) :
    (s.clearKeyStore).seeded = s.seeded := rfl
@[simp] theorem State.clearKeyStore_outstanding (s : State) :
    (s.clearKeyStore).outstanding = s.outstanding := rfl
@[simp] theorem State.clearKeyStore_rst (s : State) :
    (s.clearKeyStore).rst = s.rst := rfl
@[simp] theorem State.clearKeyStore_offers (s : State) :
    (s.clearKeyStore).offers = s.offers := rfl
@[simp] theorem State.clearKeyStore_rspReady (s : State) :
    (s.clearKeyStore).rspReady = s.rspReady := rfl
@[simp] theorem State.clearKeyStore_received (s : State) :
    (s.clearKeyStore).received = s.received := rfl
@[simp] theorem State.clearKeyStore_draw (s : State) :
    (s.clearKeyStore).draw = s.draw := rfl

/-! ### State.reseed -/

@[simp] theorem State.reseed_gen (cfg : Config) (s : State) :
    (State.reseed cfg s).gen = seedGenerator (storedSeedBytes cfg.seedFill s) := rfl
@[simp] theorem State.reseed_keybuf (cfg : Config) (s : State) :
    (State.reseed cfg s).keybuf = s.keybuf := rfl
@[simp] theorem State.reseed_keylen (cfg : Config) (s : State) :
    (State.reseed cfg s).keylen = s.keylen := rfl
@[simp] theorem State.reseed_seeded (cfg : Config) (s : State) :
    (State.reseed cfg s).seeded = s.seeded := rfl
@[simp] theorem State.reseed_outstanding (cfg : Config) (s : State) :
    (State.reseed cfg s).outstanding = s.outstanding := rfl
@[simp] theorem State.reseed_rst (cfg : Config) (s : State) :
    (State.reseed cfg s).rst = s.rst := rfl
@[simp] theorem State.reseed_offers (cfg : Config) (s : State) :
    (State.reseed cfg s).offers = s.offers := rfl
@[simp] theorem State.reseed_rspReady (cfg : Config) (s : State) :
    (State.reseed cfg s).rspReady = s.rspReady := rfl
@[simp] theorem State.reseed_received (cfg : Config) (s : State) :
    (State.reseed cfg s).received = s.received := rfl
@[simp] theorem State.reseed_draw (cfg : Config) (s : State) :
    (State.reseed cfg s).draw = s.draw := rfl

/-! ### State.advance -/

@[simp] theorem State.advance_gen (cfg : Config) (s : State) :
    (State.advance cfg s).gen = (nextByte cfg.bitTiming s.gen).2 := rfl
@[simp] theorem State.advance_keybuf (cfg : Config) (s : State) :
    (State.advance cfg s).keybuf = s.keybuf := rfl
@[simp] theorem State.advance_keylen (cfg : Config) (s : State) :
    (State.advance cfg s).keylen = s.keylen := rfl
@[simp] theorem State.advance_seeded (cfg : Config) (s : State) :
    (State.advance cfg s).seeded = s.seeded := rfl
@[simp] theorem State.advance_outstanding (cfg : Config) (s : State) :
    (State.advance cfg s).outstanding = s.outstanding := rfl
@[simp] theorem State.advance_rst (cfg : Config) (s : State) :
    (State.advance cfg s).rst = s.rst := rfl
@[simp] theorem State.advance_offers (cfg : Config) (s : State) :
    (State.advance cfg s).offers = s.offers := rfl
@[simp] theorem State.advance_rspReady (cfg : Config) (s : State) :
    (State.advance cfg s).rspReady = s.rspReady := rfl
@[simp] theorem State.advance_received (cfg : Config) (s : State) :
    (State.advance cfg s).received = s.received := rfl
@[simp] theorem State.advance_draw (cfg : Config) (s : State) :
    (State.advance cfg s).draw = s.draw := rfl

/-! ### State.applyReset -/

@[simp] theorem State.applyReset_gen (s : State) :
    (s.applyReset).gen = GeneratorState.reset := rfl
@[simp] theorem State.applyReset_keybuf (s : State) :
    (s.applyReset).keybuf = Vector.replicate 8 0x00 := rfl
@[simp] theorem State.applyReset_keylen (s : State) :
    (s.applyReset).keylen = 0 := rfl
@[simp] theorem State.applyReset_seeded (s : State) :
    (s.applyReset).seeded = false := rfl
@[simp] theorem State.applyReset_outstanding (s : State) :
    (s.applyReset).outstanding = none := rfl
@[simp] theorem State.applyReset_rst (s : State) :
    (s.applyReset).rst = s.rst := rfl
@[simp] theorem State.applyReset_offers (s : State) :
    (s.applyReset).offers = s.offers := rfl
@[simp] theorem State.applyReset_rspReady (s : State) :
    (s.applyReset).rspReady = s.rspReady := rfl
@[simp] theorem State.applyReset_received (s : State) :
    (s.applyReset).received = s.received := rfl
@[simp] theorem State.applyReset_draw (s : State) :
    (s.applyReset).draw = s.draw := rfl

/-! ### State.transfer -/

@[simp] theorem State.transfer_gen (s : State) (o : Outstanding) :
    (s.transfer o).gen = s.gen := rfl
@[simp] theorem State.transfer_keybuf (s : State) (o : Outstanding) :
    (s.transfer o).keybuf = s.keybuf := rfl
@[simp] theorem State.transfer_keylen (s : State) (o : Outstanding) :
    (s.transfer o).keylen = s.keylen := rfl
@[simp] theorem State.transfer_seeded (s : State) (o : Outstanding) :
    (s.transfer o).seeded = s.seeded := rfl
@[simp] theorem State.transfer_outstanding (s : State) (o : Outstanding) :
    (s.transfer o).outstanding = none := rfl
@[simp] theorem State.transfer_rst (s : State) (o : Outstanding) :
    (s.transfer o).rst = s.rst := rfl
@[simp] theorem State.transfer_offers (s : State) (o : Outstanding) :
    (s.transfer o).offers = s.offers := rfl
@[simp] theorem State.transfer_rspReady (s : State) (o : Outstanding) :
    (s.transfer o).rspReady = s.rspReady := rfl
@[simp] theorem State.transfer_received (s : State) (o : Outstanding) :
    (s.transfer o).received = s.received ++ [o.word] := rfl
@[simp] theorem State.transfer_draw (s : State) (o : Outstanding) :
    (s.transfer o).draw = s.draw := rfl

/-! ### State.setWait -/

@[simp] theorem State.setWait_gen (s : State) (n : Nat) :
    (s.setWait n).gen = s.gen := rfl
@[simp] theorem State.setWait_keybuf (s : State) (n : Nat) :
    (s.setWait n).keybuf = s.keybuf := rfl
@[simp] theorem State.setWait_keylen (s : State) (n : Nat) :
    (s.setWait n).keylen = s.keylen := rfl
@[simp] theorem State.setWait_seeded (s : State) (n : Nat) :
    (s.setWait n).seeded = s.seeded := rfl
@[simp] theorem State.setWait_outstanding (s : State) (n : Nat) :
    (s.setWait n).outstanding = s.outstanding.map fun o => { o with wait := n } := rfl
@[simp] theorem State.setWait_rst (s : State) (n : Nat) :
    (s.setWait n).rst = s.rst := rfl
@[simp] theorem State.setWait_offers (s : State) (n : Nat) :
    (s.setWait n).offers = s.offers := rfl
@[simp] theorem State.setWait_rspReady (s : State) (n : Nat) :
    (s.setWait n).rspReady = s.rspReady := rfl
@[simp] theorem State.setWait_received (s : State) (n : Nat) :
    (s.setWait n).received = s.received := rfl
@[simp] theorem State.setWait_draw (s : State) (n : Nat) :
    (s.setWait n).draw = s.draw := rfl

/-! ### State.takeOffer -/

@[simp] theorem State.takeOffer_gen (s : State) (rest : List CmdWord) :
    (s.takeOffer rest).gen = s.gen := rfl
@[simp] theorem State.takeOffer_keybuf (s : State) (rest : List CmdWord) :
    (s.takeOffer rest).keybuf = s.keybuf := rfl
@[simp] theorem State.takeOffer_keylen (s : State) (rest : List CmdWord) :
    (s.takeOffer rest).keylen = s.keylen := rfl
@[simp] theorem State.takeOffer_seeded (s : State) (rest : List CmdWord) :
    (s.takeOffer rest).seeded = s.seeded := rfl
@[simp] theorem State.takeOffer_outstanding (s : State) (rest : List CmdWord) :
    (s.takeOffer rest).outstanding = s.outstanding := rfl
@[simp] theorem State.takeOffer_rst (s : State) (rest : List CmdWord) :
    (s.takeOffer rest).rst = s.rst := rfl
@[simp] theorem State.takeOffer_offers (s : State) (rest : List CmdWord) :
    (s.takeOffer rest).offers = rest := rfl
@[simp] theorem State.takeOffer_rspReady (s : State) (rest : List CmdWord) :
    (s.takeOffer rest).rspReady = s.rspReady := rfl
@[simp] theorem State.takeOffer_received (s : State) (rest : List CmdWord) :
    (s.takeOffer rest).received = s.received := rfl
@[simp] theorem State.takeOffer_draw (s : State) (rest : List CmdWord) :
    (s.takeOffer rest).draw = s.draw + 1 := rfl

/-! ### State.offerFirst -/

@[simp] theorem State.offerFirst_gen (s : State) (w : CmdWord) :
    (s.offerFirst w).gen = s.gen := rfl
@[simp] theorem State.offerFirst_keybuf (s : State) (w : CmdWord) :
    (s.offerFirst w).keybuf = s.keybuf := rfl
@[simp] theorem State.offerFirst_keylen (s : State) (w : CmdWord) :
    (s.offerFirst w).keylen = s.keylen := rfl
@[simp] theorem State.offerFirst_seeded (s : State) (w : CmdWord) :
    (s.offerFirst w).seeded = s.seeded := rfl
@[simp] theorem State.offerFirst_outstanding (s : State) (w : CmdWord) :
    (s.offerFirst w).outstanding = none := rfl
@[simp] theorem State.offerFirst_rst (s : State) (w : CmdWord) :
    (s.offerFirst w).rst = false := rfl
@[simp] theorem State.offerFirst_offers (s : State) (w : CmdWord) :
    (s.offerFirst w).offers = w :: s.offers := rfl
@[simp] theorem State.offerFirst_rspReady (s : State) (w : CmdWord) :
    (s.offerFirst w).rspReady = s.rspReady := rfl
@[simp] theorem State.offerFirst_received (s : State) (w : CmdWord) :
    (s.offerFirst w).received = s.received := rfl
@[simp] theorem State.offerFirst_draw (s : State) (w : CmdWord) :
    (s.offerFirst w).draw = s.draw := rfl

/-! ### State.appendKeyByte -/

@[simp] theorem State.appendKeyByte_gen (s : State) (v : Byte) :
    (s.appendKeyByte v).gen = s.gen := by
  unfold State.appendKeyByte; split <;> rfl
@[simp] theorem State.appendKeyByte_seeded (s : State) (v : Byte) :
    (s.appendKeyByte v).seeded = s.seeded := by
  unfold State.appendKeyByte; split <;> rfl
@[simp] theorem State.appendKeyByte_outstanding (s : State) (v : Byte) :
    (s.appendKeyByte v).outstanding = s.outstanding := by
  unfold State.appendKeyByte; split <;> rfl
@[simp] theorem State.appendKeyByte_rst (s : State) (v : Byte) :
    (s.appendKeyByte v).rst = s.rst := by
  unfold State.appendKeyByte; split <;> rfl
@[simp] theorem State.appendKeyByte_offers (s : State) (v : Byte) :
    (s.appendKeyByte v).offers = s.offers := by
  unfold State.appendKeyByte; split <;> rfl
@[simp] theorem State.appendKeyByte_rspReady (s : State) (v : Byte) :
    (s.appendKeyByte v).rspReady = s.rspReady := by
  unfold State.appendKeyByte; split <;> rfl
@[simp] theorem State.appendKeyByte_received (s : State) (v : Byte) :
    (s.appendKeyByte v).received = s.received := by
  unfold State.appendKeyByte; split <;> rfl
@[simp] theorem State.appendKeyByte_draw (s : State) (v : Byte) :
    (s.appendKeyByte v).draw = s.draw := by
  unfold State.appendKeyByte; split <;> rfl

/-- The length counter after a key byte: incremented, saturating at 8 (R51). -/
@[simp] theorem State.appendKeyByte_keylen (s : State) (v : Byte) :
    (s.appendKeyByte v).keylen.val = min (s.keylen.val + 1) 8 := by
  unfold State.appendKeyByte; split
  · simp only; omega
  · have := s.keylen.isLt; omega

/-- Each register of the key store after a key byte (R51). -/
theorem State.appendKeyByte_keybuf (s : State) (v : Byte) (j : Nat) (hj : j < 8) :
    (s.appendKeyByte v).keybuf[j] = if j = s.keylen.val then v else s.keybuf[j] := by
  unfold State.appendKeyByte; split
  · simp [Vector.getElem_set, eq_comm]
  · rw [if_neg (by omega)]

/-! ### The generator state -/

@[simp] theorem GeneratorState.capture_regA (g : GeneratorState) : g.capture.regA = g.regA := rfl
@[simp] theorem GeneratorState.capture_regB (g : GeneratorState) : g.capture.regB = g.regB := rfl
@[simp] theorem GeneratorState.capture_regC (g : GeneratorState) : g.capture.regC = g.regC := rfl
@[simp] theorem GeneratorState.capture_carryB (g : GeneratorState) : g.capture.carryB = lowBit g.regB := rfl
@[simp] theorem GeneratorState.capture_carryC (g : GeneratorState) : g.capture.carryC = lowBit g.regC := rfl
@[simp] theorem GeneratorState.advanceC_regA (g : GeneratorState) : g.advanceC.regA = g.regA := by
  unfold GeneratorState.advanceC; split <;> simp_all
@[simp] theorem GeneratorState.advanceC_regB (g : GeneratorState) : g.advanceC.regB = g.regB := by
  unfold GeneratorState.advanceC; split <;> simp_all
@[simp] theorem GeneratorState.advanceC_regC (g : GeneratorState) : g.advanceC.regC = if lowBit g.regC then feedbackMask g.regC feedbackConstC fixedConstC
      else shiftMask g.regC truncConstC := by
  unfold GeneratorState.advanceC; split <;> simp_all
@[simp] theorem GeneratorState.advanceC_carryB (g : GeneratorState) : g.advanceC.carryB = g.carryB := by
  unfold GeneratorState.advanceC; split <;> simp_all
@[simp] theorem GeneratorState.advanceC_carryC (g : GeneratorState) : g.advanceC.carryC = lowBit g.regC := by
  unfold GeneratorState.advanceC; split <;> simp_all
@[simp] theorem GeneratorState.advanceB_regA (g : GeneratorState) : g.advanceB.regA = g.regA := by
  unfold GeneratorState.advanceB; split <;> simp_all
@[simp] theorem GeneratorState.advanceB_regB (g : GeneratorState) : g.advanceB.regB = if lowBit g.regB then feedbackMask g.regB feedbackConstB fixedConstB
      else shiftMask g.regB truncConstB := by
  unfold GeneratorState.advanceB; split <;> simp_all
@[simp] theorem GeneratorState.advanceB_regC (g : GeneratorState) : g.advanceB.regC = g.regC := by
  unfold GeneratorState.advanceB; split <;> simp_all
@[simp] theorem GeneratorState.advanceB_carryB (g : GeneratorState) : g.advanceB.carryB = lowBit g.regB := by
  unfold GeneratorState.advanceB; split <;> simp_all
@[simp] theorem GeneratorState.advanceB_carryC (g : GeneratorState) : g.advanceB.carryC = g.carryC := by
  unfold GeneratorState.advanceB; split <;> simp_all

end Sys2Proof.Machine
end

