-- ==== Sys2Proof/Laws/Observation.lean ====
section
/-! SUPPORT. What the observation of a run is (70_reset_and_hazards.md R87), by the levels of the port. -/

namespace Sys2Proof.Machine

/-- With nothing outstanding, what is answered and what is produced is what has transferred. -/
theorem State.observation_of_idle (s : State) (h : s.outstanding = none) :
    s.answered = s.received ∧ s.produced = s.received ∧ s.runEnded = s.offers.isEmpty := by
  cases hr : s.rst <;> simp [State.answered, State.produced, State.runEnded, State.rspWord, h, hr]

/-- A valid response that the host accepts is produced. -/
theorem State.observation_of_accepted (s : State) (o : Outstanding) (hr : s.rst = false) (hy : s.rspReady = true)
    (h : s.outstanding = some o) (hw : o.wait = 0) :
    s.answered = s.received ++ [o.word] ∧ s.produced = s.received ++ [o.word] ∧ s.runEnded = s.offers.isEmpty := by
  simp [State.answered, State.produced, State.runEnded, State.rspValid, State.rspWord, hr, hy, h, hw]

/-- A response the host withholds is not produced, and its run has not ended. -/
theorem State.observation_of_withheld (s : State) (o : Outstanding) (hy : s.rspReady = false)
    (h : s.outstanding = some o) : s.produced = s.received ∧ s.runEnded = false := by
  simp [State.produced, State.runEnded, hy, h]

end Sys2Proof.Machine
end

