-- ==== Sys2Proof/Laws/Ops.lean ====
section
/-! SUPPORT. For each shared operation, one lemma that says once everything it can do. -/

namespace Sys2Proof.Machine

/-- A clock step with A[0] = 0 (R57): A shifts, C advances, B and b stay. -/
theorem GeneratorState.clockStep_of_even (g : GeneratorState) (h : lowBit g.regA = false) :
    g.clockStep =
      { g with
        regA := shiftMask g.regA truncConstA
        regC := if lowBit g.regC then feedbackMask g.regC feedbackConstC fixedConstC else shiftMask g.regC truncConstC
        carryC := lowBit g.regC } := by
  unfold GeneratorState.clockStep GeneratorState.advanceC
  cases hc : lowBit g.regC <;> simp [h]

/-- A clock step with A[0] = 1 (R57): A feeds back, B advances, C and c stay. -/
theorem GeneratorState.clockStep_of_odd (g : GeneratorState) (h : lowBit g.regA = true) :
    g.clockStep =
      { g with
        regA := feedbackMask g.regA feedbackConstA fixedConstA
        regB := if lowBit g.regB then feedbackMask g.regB feedbackConstB fixedConstB else shiftMask g.regB truncConstB
        carryB := lowBit g.regB } := by
  unfold GeneratorState.clockStep GeneratorState.advanceB
  cases hb : lowBit g.regB <;> simp [h]

/-- The state the clock loop leaves does not depend on the accumulator or the bit timing. -/
theorem clockLoop_state (t : BitTiming) (n : Nat) (acc : Byte) (g : GeneratorState) :
    (clockLoop t n acc g).2 = GeneratorState.clockStep^[n] g := by
  induction n generalizing acc g with
  | zero => rfl
  | succ n ih => simp [clockLoop, ih]

/-- The generator does not depend on b and c from before a byte (R14, R56). -/
theorem capture_congr (g h : GeneratorState) (ha : g.regA = h.regA) (hb : g.regB = h.regB) (hc : g.regC = h.regC) :
    g.capture = h.capture := by
  simp [GeneratorState.capture, ha, hb, hc]

/-- Every meaning answers a next state with a response that is ready (R34, R70). -/
theorem exec_answers (i : Instr) (s : State) :
    ∃ t r, exec i s = .next t ∧ t.outstanding = some { word := r, wait := 0 } := by
  cases i with
  | nop => exact ⟨_, _, rfl, rfl⟩
  | kclr => exact ⟨_, _, rfl, rfl⟩
  | kpush v => exact ⟨_, _, rfl, rfl⟩
  | seed =>
    by_cases h : s.keylen = 0
    · exact ⟨_, _, if_pos h, rfl⟩
    · exact ⟨_, _, if_neg h, rfl⟩
  | xform v =>
    cases h : s.seeded with
    | false => exact ⟨_, _, if_neg (by simp [h]), rfl⟩
    | true => exact ⟨_, _, if_pos h, rfl⟩

/-- No meaning touches the host's side of the port or the model's counter. -/
theorem exec_host_side {i : Instr} {s t : State} (h : exec i s = .next t) :
    t.rst = s.rst ∧ t.offers = s.offers ∧ t.rspReady = s.rspReady ∧ t.received = s.received ∧ t.draw = s.draw := by
  cases i <;> simp only [exec, execNop, execKclr, execKpush, execSeed, execXform] at h
  case seed => split at h <;> cases h <;> simp
  case xform => split at h <;> cases h <;> simp
  all_goals cases h; simp

/-- What running an accepted word can do: the decoded command's meaning, or ILLEGAL with nothing else written. -/
theorem runWord_cases (w : CmdWord) (s : State) :
    (∃ i, decode w = .ok i ∧ runWord w s = exec i s) ∨
      (∃ e, decode w = .error e ∧ runWord w s = .next (s.fail .illegal)) := by
  unfold runWord
  cases h : decode w with
  | ok i => exact .inl ⟨i, rfl, rfl⟩
  | error e => exact .inr ⟨e, rfl, rfl⟩

/-- Running an accepted word always answers: a next state with one ready response, the host's side untouched (R34). -/
theorem runWord_answers (w : CmdWord) (s : State) :
    ∃ t r, runWord w s = .next t ∧ t.outstanding = some { word := r, wait := 0 } ∧
      t.rst = s.rst ∧ t.offers = s.offers ∧ t.rspReady = s.rspReady ∧ t.received = s.received ∧ t.draw = s.draw := by
  obtain ⟨i, -, h⟩ | ⟨e, -, h⟩ := runWord_cases w s
  · obtain ⟨t, r, ht, hr⟩ := exec_answers i s
    exact ⟨t, r, h.trans ht, hr, exec_host_side ht⟩
  · exact ⟨_, _, h, rfl, rfl, rfl, rfl, rfl, rfl⟩

/-- The seed bytes depend on the key store alone (R47). -/
theorem storedSeedBytes_congr (f : SeedFill) (s t : State) (hb : s.keybuf = t.keybuf) (hl : s.keylen = t.keylen) :
    storedSeedBytes f s = storedSeedBytes f t := by
  simp [storedSeedBytes, hb, hl]

/-- Keystream bytes advance the generator one after another: `m` bytes, then `n`. -/
theorem advanceBytes_add (t : BitTiming) (m n : Nat) (g : GeneratorState) :
    advanceBytes t (m + n) g = advanceBytes t n (advanceBytes t m g) := by
  induction m generalizing g with
  | zero => simp [advanceBytes]
  | succ m ih => simp [Nat.succ_add, advanceBytes, ih]

/-- What a transaction can do: reset, hold, or accept the next offer, after transferring a pending response. -/
theorem transaction_cases (s : State) :
    (s.rst = true ∧ transaction s = .next s.applyReset) ∨
      (s.rst = false ∧ s.outstanding = none ∧ transaction s = acceptOffer s) ∨
      (∃ o, s.rst = false ∧ s.outstanding = some o ∧ s.rspReady = true ∧
        transaction s = acceptOffer (s.transfer o)) ∨
      (∃ o, s.rst = false ∧ s.outstanding = some o ∧ s.rspReady = false ∧
        transaction s = .next (s.setWait 0)) := by
  unfold transaction
  cases hr : s.rst with
  | true => simp
  | false =>
    cases ho : s.outstanding with
    | none => simp
    | some o => cases hy : s.rspReady <;> simp

/-- What one clock edge can do. -/
theorem clockEdge_cases (s : State) :
    (s.rst = true ∧ clockEdge s = .next s.applyReset) ∨
      (s.rst = false ∧ s.outstanding = none ∧ clockEdge s = acceptAtEdge s) ∨
      (∃ o, s.rst = false ∧ s.outstanding = some o ∧ o.wait ≠ 0 ∧ clockEdge s = .next (s.setWait (o.wait - 1))) ∨
      (∃ o, s.rst = false ∧ s.outstanding = some o ∧ o.wait = 0 ∧ s.rspReady = true ∧
        clockEdge s = .next (s.transfer o)) ∨
      (∃ o, s.rst = false ∧ s.outstanding = some o ∧ o.wait = 0 ∧ s.rspReady = false ∧ clockEdge s = .next s) := by
  unfold clockEdge
  cases hr : s.rst with
  | true => simp
  | false =>
    cases ho : s.outstanding with
    | none => simp
    | some o =>
      by_cases hw : o.wait = 0
      · cases hy : s.rspReady <;> simp [hw]
      · simp [hw]

end Sys2Proof.Machine
end

