-- ==== Sys2Proof/Laws/PerInstr.lean ====
section
/-! SUPPORT. Statements about every instruction as syntax, one lemma per constructor: each command's word is a legal word of
the opcode map, selected by the row of its own mnemonic (30_encoding.md R39). -/

namespace Sys2Proof.Laws

/-- The mnemonic of a command in the opcode map (R39). -/
def mnemonicOf : Instr → String
  | .nop => "NOP"
  | .kclr => "KCLR"
  | .kpush _ => "KPUSH"
  | .seed => "SEED"
  | .xform _ => "XFORM"

/-- The rows of the opcode map that select the command's word are exactly the row of its mnemonic. -/
def EncodeSelectsOwnRow.Statement (i : Instr) : Prop :=
  (opcodeTable.filter (·.selects (encode i))).map (·.mnemonic) = [mnemonicOf i]

namespace EncodeSelectsOwnRow

theorem nop : Statement .nop := by unfold Statement; decide

theorem kclr : Statement .kclr := by unfold Statement; decide

theorem kpush (v : Byte) : Statement (.kpush v) := by revert v; unfold Statement; decide

theorem seed : Statement .seed := by unfold Statement; decide

theorem xform (v : Byte) : Statement (.xform v) := by revert v; unfold Statement; decide

end EncodeSelectsOwnRow

end Sys2Proof.Laws
end

