-- ==== Sys2Proof/Tests/Slice0.lean ====
section
/-! SUPPORT. Tests with values taken from spec/ (95_test_vectors.md unless a comment says otherwise), the smoke test of the
well-formedness checks, and for every statement with hypotheses a state that meets them. -/

namespace Sys2Proof.Tests

open Sys2Proof.Machine

/-! ### Well-formedness smoke tests: each check refuses an ill-formed term -/

theorem test_nop_word_with_operand_is_ill_formed : legalWord 0x0001 = false := by decide

theorem test_kclr_word_with_operand_is_ill_formed : legalWord 0x01ff = false := by decide

theorem test_seed_word_with_operand_is_ill_formed : legalWord 0x0301 = false := by decide

theorem test_reserved_opcodes_are_ill_formed : legalWord 0x0500 = false ∧ legalWord 0xffff = false := by decide

theorem test_wide_kpush_operand_is_ill_formed : (AsmLine.kpush 256).wellFormed = false := by decide

theorem test_wide_xform_operand_is_ill_formed : (AsmLine.xform 256).wellFormed = false := by decide

theorem test_wide_word_is_ill_formed : (AsmLine.word 65536).wellFormed = false := by decide

theorem test_wide_loadkey_operand_is_ill_formed : (AsmLine.loadkey [255, 256]).wellFormed = false := by decide

theorem test_wide_transform_operand_is_ill_formed : (AsmLine.transform [0, 300]).wellFormed = false := by decide

/-! ### Decoding: words written out from the encoding of R35 and R39, and V1 -/

theorem test_decode_nop : decode 0b0000000000000000 = .ok .nop := by decide

theorem test_decode_kclr : decode 0b0000000100000000 = .ok .kclr := by decide

theorem test_decode_kpush : decode 0b0000001010000001 = .ok (.kpush 0x81) := by decide

theorem test_decode_seed : decode 0b0000001100000000 = .ok .seed := by decide

theorem test_decode_xform : decode 0b0000010001000010 = .ok (.xform 0x42) := by decide

theorem test_decode_refuses_by_name :
    decode 0x0001 = .error .operandNotZero ∧ decode 0x0301 = .error .operandNotZero ∧
    decode 0x0500 = .error .reservedOpcode ∧ decode 0xff00 = .error .reservedOpcode := by decide

theorem test_decode_table_word : decodeTableWord 16 0x02ff = some (.kpush 0xff) ∧ decodeTableWord 16 0x0500 = none := by
  decide

/-! ### States the tests use -/

/-- The reset state with words offered. -/
def offering (ws : List CmdWord) : State := { State.reset with offers := ws }

/-- The key "abcd" loaded (P1 line 5). -/
def keyed : State := { State.reset with keybuf := #v[0x61, 0x62, 0x63, 0x64, 0, 0, 0, 0], keylen := 4 }

/-- The key "abcd" seeded (P1 line 6). -/
def seeded : State :=
  { keyed with
    gen := { regA := 0x61626364, regB := 0x61626364, regC := 0x61626364, carryB := false, carryC := false }
    seeded := true }

/-- A full key store. -/
def full : State := { State.reset with keybuf := #v[1, 2, 3, 4, 5, 6, 7, 8], keylen := 8, seeded := true }

/-- The next state's response word, when there is one. -/
def answer (o : Host.Outcome State Fault Refusal) : Option RspWord :=
  match o with
  | .next t => t.outstanding.map (·.word)
  | _ => none

/-- A field of the next state. -/
def after {α : Type} (f : State → α) (o : Host.Outcome State Fault Refusal) : Option α :=
  match o with
  | .next t => some (f t)
  | _ => none

/-! ### Instructions -/

/-- V1. -/
theorem test_nop_answers : answer (exec .nop seeded) = some 0x000 := by decide

/-- V10. -/
theorem test_kclr_clears : after (fun t => (t.keylen, t.seeded, t.keybuf)) (exec .kclr full) =
    some (0, false, #v[0, 0, 0, 0, 0, 0, 0, 0]) := by decide

/-- P1 line 4. -/
theorem test_kpush_appends : after (fun t => (t.keylen, t.keybuf, t.seeded)) (exec (.kpush 0x65) seeded) =
    some (5, #v[0x61, 0x62, 0x63, 0x64, 0x65, 0, 0, 0], false) := by decide

/-- V10: a ninth byte is discarded, SEEDED is cleared. -/
theorem test_kpush_discards_the_ninth_byte : after (fun t => (t.keylen, t.keybuf, t.seeded)) (exec (.kpush 0x99) full) =
    some (8, #v[1, 2, 3, 4, 5, 6, 7, 8], false) := by decide

/-- P1 line 6. -/
theorem test_seed_abcd : exec .seed keyed = .next { seeded with outstanding := some { word := 0x000, wait := 0 } } := by
  rfl

/-- V10: SEED with an empty key. -/
theorem test_seed_with_empty_key : answer (exec .seed State.reset) = some 0x200 := by decide

/-- P1 line 7. -/
theorem test_xform_abcd : answer (exec (.xform 0x41) seeded) = some 0x051 ∧
    after (fun t => t.gen) (exec (.xform 0x41) seeded) =
      some { regA := 0x6d858996, regB := 0x185898d9, regC := 0x030b131b, carryB := false, carryC := false } := by decide

/-- V10: XFORM before a SEED. -/
theorem test_xform_not_seeded : answer (exec (.xform 0x41) keyed) = some 0x300 := by decide

/-! ### Functions behind the commands -/

/-- V2, row fdb97531. -/
theorem test_register_primitives :
    shiftMask 0xfdb97531 truncConstA = 0x7edcba98 ∧ shiftMask 0xfdb97531 truncConstB = 0x3edcba98 ∧
    shiftMask 0xfdb97531 truncConstC = 0x0edcba98 ∧
    feedbackMask 0xfdb97531 feedbackConstA fixedConstA = 0xbdb97500 ∧
    feedbackMask 0xfdb97531 feedbackConstB fixedConstB = 0xddb97521 ∧
    feedbackMask 0xfdb97531 feedbackConstC fixedConstC = 0xf5b97530 := by decide

/-- V3: both timings from the default state. -/
theorem test_default_keystream_byte :
    (nextByte .endOfStep GeneratorState.reset).1 = 0xe0 ∧ (nextByte .startOfStep GeneratorState.reset).1 = 0xf0 := by decide

/-- P3 line 10: the second keystream byte of a one-byte key, and the state after it. -/
theorem test_second_keystream_byte :
    nextByte .endOfStep { regA := 0x453579ac, regB := 0x02468ace, regC := 0x02b72ea6, carryB := false, carryC := false } =
      (0x6b, { regA := 0xea29abf6, regB := 0xc1234567, regC := 0x0a56e5d4, carryB := true, carryC := false }) := by decide

/-- V5, "key": 3 bytes, ZERO and CYCLIC. -/
theorem test_short_key_fill :
    (sourceSeed .zero [0x6b, 0x65, 0x79]).regA = 0x65790000 ∧ (sourceSeed .cyclic [0x6b, 0x65, 0x79]).regA = 0x65796b65 := by
  decide

/-- V5, "abcdefg": the seed buffer. -/
theorem test_seed_buffer : seedBuf .zero [0x61, 0x62, 0x63, 0x64, 0x65, 0x66, 0x67] =
    [0x61, 0x62, 0x63, 0x64, 0x65, 0x66, 0x67, 0x61, 0x62, 0x63, 0x64, 0x65] := by decide

/-! ### Step, reset and assembler -/

/-- P3 line 5: an illegal word is answered before the empty key is seen (R68). -/
theorem test_step_answers_illegal : answer (step (offering [0x0301])) = some 0x100 := by decide

/-- V1: a word placed by withFetchWord is run by the next step. -/
theorem test_step_runs_the_placed_word : answer (step (State.reset.withFetchWord 16 0x04ff)) = some 0x300 := by decide

/-- R79: reset abandons an outstanding command. -/
theorem test_reset_abandons :
    after (fun t => (t.outstanding, t.seeded, t.received)) (step { full with rst := true, outstanding := some ⟨0x05a, 3⟩ }) =
      some (none, false, []) := by decide

/-- P2: the character form of an operand, with a comment. -/
theorem test_assemble_quoted_operand :
    assembleLine ['K', 'P', 'U', 'S', 'H', ' ', quoteMark, 'b', quoteMark, ' ', ';', 'x'] = .ok [0x0262] := by decide

/-- R87: a response withheld is not produced and its run does not end; the same response accepted is, and it does. -/
theorem test_withheld_response_is_not_produced :
    ({ keyed with outstanding := some ⟨0x05a, 0⟩, rspReady := false } : State).produced = [] ∧
    ({ keyed with outstanding := some ⟨0x05a, 0⟩, rspReady := false } : State).runEnded = false ∧
    ({ keyed with outstanding := some ⟨0x05a, 0⟩ } : State).produced = [0x05a] ∧
    ({ keyed with outstanding := some ⟨0x05a, 0⟩ } : State).runEnded = true := by decide

/-- R44: decimal operand and lower case. -/
theorem test_assemble_decimal_operand : assembleLine ['x', 'f', 'o', 'r', 'm', ' ', '9', '7'] = .ok [0x0461] := by decide

/-- P3 line 3: an arbitrary word. -/
theorem test_assemble_word : assembleLine ['.', 'w', 'o', 'r', 'd', ' ', '0', 'x', '0', '5', '0', '0'] = .ok [0x0500] := by
  decide

/-- R45: LOADKEY of two bytes. -/
theorem test_assemble_loadkey :
    assembleLine ['L', 'O', 'A', 'D', 'K', 'E', 'Y', ' ', '1', ',', ' ', '2'] = .ok [0x0100, 0x0201, 0x0202] := by decide

/-! ### Witnesses: for each statement with hypotheses, operands and states that meet them, clause by clause -/

theorem witness_DecodeAndEncodeAreInverse : ∃ w i, decode w = .ok i := ⟨0x0261, .kpush 0x61, by decide⟩

/-- A word that decodes, for each command of the last clause, and a row that selects a word. -/
theorem witness_LegalWordsAreTheOpcodeMap :
    (decode 0x0000 = .ok .nop ∧ decode 0x0100 = .ok .kclr ∧ decode 0x02ff = .ok (.kpush 0xff) ∧ decode 0x0300 = .ok .seed ∧
      decode 0x0400 = .ok (.xform 0x00)) ∧
    ∃ w, ∃ r ∈ opcodeTable, ∃ r' ∈ opcodeTable, r.selects w = true ∧ r'.selects w = true :=
  ⟨by decide, 0x0461, _, List.getLast_mem (by decide), _, List.getLast_mem (by decide), by decide, by decide⟩

/-- Both kinds of illegal word, at the boundary of each range, and a response that has still to transfer. -/
theorem witness_IllegalWordAnswersIllegal :
    ((offering [0x05#8 ++ 0x00#8]).rst = false ∧ (offering [0x05#8 ++ 0x00#8]).outstanding = none ∧ 0x05 ≤ (0x05#8).toNat) ∧
    0x05 ≤ (0xff#8).toNat ∧
    ((offering [0x03#8 ++ 0x01#8]).offers = (0x03#8 ++ 0x01#8 : CmdWord) :: [] ∧ (0x01#8 : Byte) ≠ 0x00) ∧
    ({ offering [0xff#8 ++ 0x00#8] with outstanding := some ⟨0x000, 0⟩ } : State).outstanding = some ⟨0x000, 0⟩ ∧
    ({ offering [0xff#8 ++ 0x00#8] with outstanding := some ⟨0x000, 0⟩ } : State).rspReady = true := by decide

theorem witness_NopOnlyResponds : ∃ imm : Byte, imm ≠ 0x00 := ⟨0x01, by decide⟩

theorem witness_KclrClearsTheKeyStore : ∃ imm : Byte, imm ≠ 0x00 := ⟨0xff, by decide⟩

/-- KEYLEN at 0 and 7 for the writing clause, 8 for the discarding one. -/
theorem witness_KpushAppendsOneKeyByte :
    State.reset.keylen.val < 8 ∧ ({ full with keylen := 7 } : State).keylen.val < 8 ∧ full.keylen.val = 8 := by decide

theorem witness_KeyBytesPastTheEighthLeaveNoTrace : ∃ key : List Byte, 8 ≤ key.length := ⟨List.replicate 8 0x61, by decide⟩

/-- A key of 1 byte, with positions in the key, in its double and past it. -/
theorem witness_SeedBufferIsTheDoubledKey :
    ∃ key : List Byte, key ≠ [] ∧ 0 < key.length ∧ (¬ 1 < key.length ∧ 1 < 2 * key.length) ∧ ¬ 2 < 2 * key.length :=
  ⟨[0x61], by decide⟩

/-- n = 8, j = 7; n = 4, j = 4; n = 1, j = 4. -/
theorem witness_StoredSeedBytesAreTheSeedBuffers :
    ((4 : Nat) ≤ (7 : Fin 8).val ∧ (7 : Fin 8).val < 8) ∧ (4 ≤ (4 : Fin 8).val ∧ (4 : Fin 8).val < 2 * 4) ∧
    2 * 1 ≤ (4 : Fin 8).val ∧ ([0x61] : List Byte) ≠ [] := by decide

/-- An empty store; KEYLEN 1 and 8; a non-zero IMM8. -/
theorem witness_SeedDerivesAFreshGeneratorState :
    State.reset.keylen = 0 ∧ full.keylen ≠ 0 ∧ ({ full with keylen := 1 } : State).keylen ≠ 0 ∧ (0x01 : Byte) ≠ 0x00 := by decide

theorem witness_SeedHasTheClosedForm : keyed.keylen ≠ 0 := by decide

theorem witness_SeededRegistersAreNotZero : ∃ t, exec .seed keyed = .next t ∧ keyed.keylen ≠ 0 := ⟨_, rfl, by decide⟩

theorem witness_SeedRestartsTheKeystream : full.keylen ≠ 0 := by decide

/-- A generator state for each of the four cases. -/
theorem witness_ClockStepFollowsTheStopGoRule :
    ∃ g1 g2 g3 g4 : GeneratorState,
      (g1.regA.getLsbD 0 = false ∧ g1.regC.getLsbD 0 = false) ∧ (g2.regA.getLsbD 0 = false ∧ g2.regC.getLsbD 0 = true) ∧
      (g3.regA.getLsbD 0 = true ∧ g3.regB.getLsbD 0 = false) ∧ (g4.regA.getLsbD 0 = true ∧ g4.regB.getLsbD 0 = true) :=
  ⟨⟨0, 0, 0, false, false⟩, ⟨0, 0, 1, false, false⟩, ⟨1, 0, 0, false, false⟩, ⟨1, 1, 0, false, false⟩, by decide⟩

theorem witness_KeystreamByteIsEightClockSteps : (0 : Nat) < 8 ∧ (7 : Nat) < 8 := by decide

theorem witness_RegisterBNeverAdvancesTwiceInARow : GeneratorState.reset.regA.getLsbD 0 = true := by decide

theorem witness_RegisterANeverBecomesZero : GeneratorState.reset.regA ≠ 0 := by decide

/-- B = 0xf85898c9 of V9, with A's bit 0 at 1 and at 0. -/
theorem witness_RegisterBLocksOnceItsLowBitIsSet :
    ∃ g h : GeneratorState, g.regB.getLsbD 0 = true ∧ (GeneratorState.clockStep^[0] g).regA.getLsbD 0 = true ∧
      h.regB.getLsbD 0 = true ∧ (GeneratorState.clockStep^[0] h).regA.getLsbD 0 = false :=
  ⟨⟨1, 0xf85898c9, 0, false, false⟩, ⟨2, 0xf85898c9, 0, false, false⟩, by decide⟩

theorem witness_ZeroRegistersStayZero :
    ∃ g h : GeneratorState, (g.regB = 0 ∧ (GeneratorState.clockStep^[0] g).regA.getLsbD 0 = true) ∧
      h.regC = 0 ∧ (GeneratorState.clockStep^[0] h).regA.getLsbD 0 = false :=
  ⟨⟨1, 0, 0, false, false⟩, ⟨2, 0, 0, false, false⟩, by decide⟩

theorem witness_DegenerateKeyYieldsAZeroKeystream : (4 : Nat) ≤ 4 := by decide

theorem witness_XformTransformsOneByte : keyed.seeded = false ∧ seeded.seeded = true := by decide

theorem witness_KeystreamDoesNotDependOnTheData : seeded.seeded = true := by decide

/-- An illegal word, a SEED with an empty key and an XFORM. -/
theorem witness_NoTransformWithoutASeed :
    ∃ (s : State) (ws rest : List CmdWord), (s.seeded = false ∧ s.rst = false ∧ s.rspReady = true ∧ s.offers = ws ++ rest) ∧
      (∀ (before after : List CmdWord) (u : State), ws = before ++ 0x0300 :: after →
        Sys2Proof.core.run before.length s = .next u → u.keylen = 0) ∧
      ws[2]? = some (0x0400 ||| (0x41 : Byte).setWidth 16) := by
  refine ⟨offering [0x0500, 0x0300, 0x0441], [0x0500, 0x0300, 0x0441], [], by decide, fun before after u h hu => ?_, by decide⟩
  rcases before with _ | ⟨_, _ | ⟨_, _ | ⟨_, _ | _⟩⟩⟩ <;> simp at h
  cases hu
  rfl

theorem witness_MessagesWithoutReseedAreOneStream :
    ∃ (s : State) (m1 m2 : List Byte) (rest : List CmdWord), s.seeded = true ∧ s.rst = false ∧ s.rspReady = true ∧
      s.offers = (m1 ++ m2).map (fun m => encode (.xform m)) ++ rest :=
  ⟨{ seeded with offers := [0x0441, 0x0442, 0x0000] }, [0x41], [0x42], [0x0000], by decide⟩

theorem witness_BlockComputesTheSourceTransform :
    ∃ (s : State) (key msg : List Byte) (rest : List CmdWord), key ≠ [] ∧ s.rst = false ∧ s.rspReady = true ∧
      s.outstanding = none ∧ s.offers = (loadKey key ++ transformMessage msg).map encode ++ rest :=
  ⟨offering [0x0100, 0x0261, 0x0300, 0x0441, 0x0000], [0x61], [0x41], [0x0000], by decide⟩

theorem witness_EmptyKeyEnablesNoTransform :
    ∃ (s : State) (msg : List Byte) (rest : List CmdWord), s.keylen = 0 ∧ s.seeded = false ∧ s.rst = false ∧
      s.rspReady = true ∧ s.outstanding = none ∧ s.offers = (transformMessage msg).map encode ++ rest :=
  ⟨offering [0x0300, 0x0441], [0x41], [], by decide⟩

/-- A failing command, an EMPTY_KEY, a NOT_SEEDED, and a response with data. -/
theorem witness_FailingCommandWritesNoState :
    answer (exec .seed State.reset) = some 0x200 ∧ answer (exec (.xform 0x00) State.reset) = some 0x300 ∧
    answer (exec (.xform 0x41) seeded) = some 0x051 := by decide

/-- Each clause's change happens: the generator, KEYBUF, KEYLEN, SEEDED up, SEEDED down. -/
theorem witness_OnlyTheNamedCommandsWriteAnElement :
    (∃ t, exec .seed keyed = .next t ∧ t.gen ≠ keyed.gen ∧ keyed.seeded = false ∧ t.seeded = true) ∧
    (∃ t, exec (.kpush 0x65) seeded = .next t ∧ t.keybuf ≠ seeded.keybuf ∧ t.keylen ≠ seeded.keylen ∧
      seeded.seeded = true ∧ t.seeded = false) :=
  ⟨⟨_, rfl, by decide⟩, ⟨_, rfl, by decide⟩⟩

theorem witness_ResetTakesEveryStateToTheResetValues : ({ full with rst := true } : State).rst = true := by decide

/-- An edge that takes a word, and one that does not. -/
theorem witness_CommandTransfersOnValidAndReady :
    ((offering [0x0000]).cmdValid = true ∧ (offering [0x0000]).cmdReady = true) ∧
    ¬(State.reset.cmdValid = true ∧ State.reset.cmdReady = true) := by decide

/-- A response taken, one held, and none valid because it still waits. -/
theorem witness_ResponseHoldsUntilItTransfers :
    (({ keyed with outstanding := some ⟨0x05a, 0⟩ } : State).rspWord = some 0x05a ∧ keyed.rspReady = true) ∧
    (({ keyed with outstanding := some ⟨0x05a, 0⟩, rspReady := false } : State).rspWord = some 0x05a) ∧
    ({ keyed with outstanding := some ⟨0x05a, 2⟩ } : State).rspValid = false := by decide

theorem witness_ResponseComesWithinTheLatency :
    (offering [0x0000]).cmdReady = true ∧ (offering [0x0000]).offers = 0x0000 :: [] := by decide

/-- With no response outstanding, the host accepting or not, and with one outstanding that the host accepts. -/
theorem witness_EveryCommandYieldsOneResponseInOrder :
    ((offering [0x0500]).rst = false ∧ (offering [0x0500]).outstanding = none ∧ (offering [0x0500]).offers = 0x0500 :: []) ∧
    ({ offering [0x0300] with rspReady := false } : State).outstanding = none ∧
    ({ offering [0x0300] with outstanding := some ⟨0x000, 1⟩ } : State).rspReady = true := by decide

theorem witness_WithheldResponseStopsTheBlock :
    ∃ (s : State) (o : Outstanding), s.rst = false ∧ s.outstanding = some o ∧ s.rspReady = false :=
  ⟨{ keyed with outstanding := some ⟨0x000, 2⟩, rspReady := false }, ⟨0x000, 2⟩, by decide⟩

theorem witness_IdleBlockKeepsItsState : seeded.rst = false ∧ seeded.outstanding = none ∧ seeded.offers = [] := by decide

/-- A word that decodes, offered with no response outstanding and with one that transfers first. -/
theorem witness_StepRunsTheDecodedCommand :
    decode 0x0461 = .ok (.xform 0x61) ∧
    ((offering [0x0461]).rst = false ∧ (offering [0x0461]).outstanding = none ∧ (offering [0x0461]).offers = [0x0461]) ∧
    ({ offering [0x0461] with outstanding := some ⟨0x000, 0⟩ } : State).outstanding = some ⟨0x000, 0⟩ ∧
    (offering [0x0461]).rspReady = true := by decide

/-- The seeded state meets the invariant and offers a word to a step. -/
theorem witness_EveryStepKeepsTheInvariant :
    BlockInvariant { seeded with offers := [0x0441] } ∧ ∃ t, step { seeded with offers := [0x0441] } = .next t :=
  ⟨⟨by decide, by decide, fun _ => ⟨0, by decide⟩, by decide, (by intro o h; cases h), (by intro r h; cases h)⟩, _, rfl⟩

/-- The same state, one edge. -/
theorem witness_EveryClockEdgeKeepsTheInvariant :
    BlockInvariant { seeded with outstanding := some ⟨0x051, 0⟩ } ∧
      ∃ t, clockEdge { seeded with outstanding := some ⟨0x051, 0⟩ } = .next t :=
  ⟨⟨by decide, by decide, fun _ => ⟨0, by decide⟩, by decide, (by intro o h hs; cases h; exact absurd (by decide) hs), (by intro r h; cases h)⟩, _, rfl⟩

/-- Two different states that cannot be told apart: unseeded with different registers, and seeded with different carries. -/
theorem witness_HiddenStateNeverShowsInResponses :
    (Indistinguishable keyed { keyed with gen := seeded.gen } ∧ keyed ≠ { keyed with gen := seeded.gen }) ∧
    (Indistinguishable seeded { seeded with gen := { seeded.gen with carryB := true } } ∧
      seeded ≠ { seeded with gen := { seeded.gen with carryB := true } }) :=
  ⟨⟨⟨rfl, by decide⟩, by decide⟩, ⟨⟨rfl, by decide⟩, by decide⟩⟩

end Sys2Proof.Tests
end

/-! SUPPORT. The parameters of this hardware (00_scope.md R6). -/

namespace Sys2Proof.Machine

theorem one_le_latency (op : Byte) : 1 ≤ Config.latency op := by
  unfold Config.latency
  omega

/-- Settles O9: the two switches as Rom.lean sets them, the latency by its form. -/
theorem parametersOfThisHardware : Obligations.ParametersOfThisHardware := ⟨rfl, rfl, one_le_latency⟩

end Sys2Proof.Machine

/-! SUPPORT. Runs of the block with a host that accepts every response: the words it takes, the responses it gives
(30_encoding.md R33, R34, 70_reset_and_hazards.md R87). -/

namespace Sys2Proof.Machine

/-! ### Words and their meanings -/

@[simp] theorem op_append (op imm : Byte) : CmdWord.op (op ++ imm) = op :=
  BitVec.extractLsb'_append_eq_left

@[simp] theorem imm_append (op imm : Byte) : CmdWord.imm (op ++ imm) = imm :=
  BitVec.extractLsb'_append_eq_right

theorem encode_kpush (v : Byte) : encode (.kpush v) = 0x02#8 ++ v := by
  rw [BitVec.append_def]; rfl

theorem encode_xform (v : Byte) : encode (.xform v) = 0x04#8 ++ v := by
  rw [BitVec.append_def]; rfl

/-- The word of a command decodes to the command (R39, R40). -/
@[simp] theorem decode_encode (i : Instr) : decode (encode i) = .ok i := by
  cases i with
  | nop => rfl
  | kclr => rfl
  | kpush v => simp [decode, encode_kpush]
  | seed => rfl
  | xform v => simp [decode, encode_xform]

/-- Running the word of a command is the command's meaning. -/
@[simp] theorem runWord_encode (i : Instr) (s : State) : runWord (encode i) s = exec i s := by
  simp [runWord]

/-! ### One step -/

/-- The state on which an accepted word runs: a pending response has transferred, the word is taken. -/
def State.accepting (s : State) (rest : List CmdWord) : State :=
  { s with outstanding := none, received := s.answered, offers := rest, draw := s.draw + 1 }

@[simp] theorem State.accepting_gen (s : State) (rest : List CmdWord) :
    (s.accepting rest).gen = s.gen := rfl
@[simp] theorem State.accepting_keybuf (s : State) (rest : List CmdWord) :
    (s.accepting rest).keybuf = s.keybuf := rfl
@[simp] theorem State.accepting_keylen (s : State) (rest : List CmdWord) :
    (s.accepting rest).keylen = s.keylen := rfl
@[simp] theorem State.accepting_seeded (s : State) (rest : List CmdWord) :
    (s.accepting rest).seeded = s.seeded := rfl
@[simp] theorem State.accepting_outstanding (s : State) (rest : List CmdWord) :
    (s.accepting rest).outstanding = none := rfl
@[simp] theorem State.accepting_rst (s : State) (rest : List CmdWord) :
    (s.accepting rest).rst = s.rst := rfl
@[simp] theorem State.accepting_offers (s : State) (rest : List CmdWord) :
    (s.accepting rest).offers = rest := rfl
@[simp] theorem State.accepting_rspReady (s : State) (rest : List CmdWord) :
    (s.accepting rest).rspReady = s.rspReady := rfl
@[simp] theorem State.accepting_received (s : State) (rest : List CmdWord) :
    (s.accepting rest).received = s.answered := rfl
@[simp] theorem State.accepting_draw (s : State) (rest : List CmdWord) :
    (s.accepting rest).draw = s.draw + 1 := rfl

/-- A step that is not held up runs the word offered first, after transferring a pending response (R33). -/
theorem step_runs_offer {s : State} {w : CmdWord} {rest : List CmdWord} (hrst : s.rst = false)
    (hfree : s.outstanding = none ∨ s.rspReady = true) (hoffers : s.offers = w :: rest) :
    step s = runWord w (s.accepting rest) := by
  unfold step
  obtain ⟨h, -⟩ | ⟨-, ho, htr⟩ | ⟨o, -, ho, -, htr⟩ | ⟨o, -, ho, hwithheld, -⟩ := transaction_cases s
  · simp [hrst] at h
  · have hs : s.takeOffer rest = s.accepting rest := by
      simp [State.takeOffer, State.accepting, State.answered, ho]
    simp [htr, acceptOffer, hoffers, hs]
  · have hs : (s.transfer o).takeOffer rest = s.accepting rest := by
      simp [State.takeOffer, State.transfer, State.accepting, State.answered, ho]
    simp [htr, acceptOffer, hoffers, hs]
  · simp [ho, hwithheld] at hfree

/-! ### Runs -/

theorem run_one {s t : State} (h : step s = .next t) : Sys2Proof.core.run 1 s = .next t := by
  have hstep : Sys2Proof.core.step s = .next t := h
  simp [Host.Core.run, hstep]

/-- A run of `m + n` steps is a run of `m` steps followed by one of `n`. -/
theorem run_add (M : Host.Core) {m : Nat} (n : Nat) {s t : M.State} (h : M.run m s = .next t) :
    M.run (m + n) s = M.run n t := by
  induction m generalizing s with
  | zero =>
    cases h
    rw [Nat.zero_add]
  | succ m ih =>
    rw [Nat.succ_add]
    cases hs : M.step s with
    | next u =>
      simp only [Host.Core.run, hs] at h ⊢
      exact ih h
    | fault r => simp [Host.Core.run, hs] at h
    | refused r => simp [Host.Core.run, hs] at h

/-- The host side of a run that is not held up: no reset, every response accepted, and the words still offered. -/
structure State.HostOffers (s : State) (ws : List CmdWord) : Prop where
  rst : s.rst = false
  rspReady : s.rspReady = true
  offers : s.offers = ws

/-- The outstanding response, if there is one, is already valid. -/
def State.NothingWaits (s : State) : Prop := ∀ o, s.outstanding = some o → o.wait = 0

/-- A run from `s` to `t` that answers one response word per step. -/
structure Answers (s : State) (rs : List RspWord) (t : State) : Prop where
  run : Sys2Proof.core.run rs.length s = .next t
  answered : t.answered = s.answered ++ rs
  nothingWaits : s.NothingWaits → t.NothingWaits

theorem Answers.refl (s : State) : Answers s [] s := ⟨rfl, by simp, id⟩

theorem Answers.trans {s t u : State} {rs rs' : List RspWord} (h : Answers s rs t) (h' : Answers t rs' u) :
    Answers s (rs ++ rs') u where
  run := by rw [List.length_append, run_add _ _ h.run, h'.run]
  answered := by rw [h'.answered, h.answered, List.append_assoc]
  nothingWaits hs := h'.nothingWaits (h.nothingWaits hs)

/-- With an accepting host and no wait left, every response answered is produced (R87). -/
theorem State.HostOffers.produced_eq_answered {s : State} {ws : List CmdWord} (h : s.HostOffers ws)
    (hw : s.NothingWaits) : s.produced = s.answered := by
  cases ho : s.outstanding with
  | none =>
    obtain ⟨ha, hp, -⟩ := s.observation_of_idle ho
    rw [hp, ha]
  | some o =>
    obtain ⟨ha, hp, -⟩ := s.observation_of_accepted o h.rst h.rspReady ho (hw o ho)
    rw [hp, ha]

/-- One word offered to the block is one response (R34). -/
theorem answers_of_runWord {s t : State} {w : CmdWord} {rest : List CmdWord} {r : RspWord}
    (hs : s.HostOffers (w :: rest)) (hrun : runWord w (s.accepting rest) = .next t)
    (hr : t.outstanding = some { word := r, wait := 0 }) : Answers s [r] t ∧ t.HostOffers rest := by
  obtain ⟨t', -, ht', -, hrst, hoffers, hready, hreceived, -⟩ := runWord_answers w (s.accepting rest)
  cases ht'.symm.trans hrun
  refine ⟨⟨run_one ?_, ?_, ?_⟩, ⟨hrst.trans hs.rst, hready.trans hs.rspReady, hoffers⟩⟩
  · rw [step_runs_offer hs.rst (.inr hs.rspReady) hs.offers, hrun]
  · simp [State.answered, hr, hreceived]
  · rintro - o ho
    cases hr.symm.trans ho
    rfl

/-- One command offered to the block, by its meaning. -/
theorem answers_of_exec {s t : State} {i : Instr} {rest : List CmdWord} {r : RspWord}
    (hs : s.HostOffers (encode i :: rest)) (hexec : exec i (s.accepting rest) = .next t)
    (hr : t.outstanding = some { word := r, wait := 0 }) : Answers s [r] t ∧ t.HostOffers rest :=
  answers_of_runWord hs ((runWord_encode i _).trans hexec) hr

end Sys2Proof.Machine

/-! SUPPORT. The key store and the seeding (40_key_seeder.md R46, R47, R50 to R52): what the store holds of a key, and
that it holds enough for the source's seed. -/

namespace Sys2Proof.Machine

/-- The key store holds a key: its length up to 8 (R17), its first bytes in load order and 0x00 past them (R16). -/
structure State.HoldsKey (s : State) (key : List Byte) : Prop where
  keylen : s.keylen.val = min key.length 8
  keybuf : ∀ (j : Nat) (hj : j < 8), s.keybuf[j] = key.getD j 0x00

/-- Only the key store matters for the key it holds. -/
theorem State.HoldsKey.congr {s t : State} {key : List Byte} (h : s.HoldsKey key) (hbuf : t.keybuf = s.keybuf)
    (hlen : t.keylen = s.keylen) : t.HoldsKey key where
  keylen := by rw [hlen, h.keylen]
  keybuf j hj := by rw [← h.keybuf j hj]; simp only [hbuf]

theorem State.clearKeyStore_holdsKey (s : State) : s.clearKeyStore.HoldsKey [] where
  keylen := rfl
  keybuf j hj := by simp

/-- One more byte of a key, the ninth and later ones discarded (R51). -/
theorem State.HoldsKey.appendKeyByte {s : State} {key : List Byte} (h : s.HoldsKey key) (v : Byte) :
    (s.appendKeyByte v).HoldsKey (key ++ [v]) where
  keylen := by
    rw [State.appendKeyByte_keylen, h.keylen, List.length_append, List.length_singleton]
    omega
  keybuf j hj := by
    rw [State.appendKeyByte_keybuf s v j hj, h.keylen, h.keybuf j hj]
    rcases Nat.lt_trichotomy j key.length with hlt | heq | hgt
    · rw [if_neg (by omega), List.getD_append _ _ _ _ hlt]
    · rw [if_pos (by omega)]
      simp [heq]
    · rw [if_neg (by omega), List.getD_eq_default _ _ (by omega), List.getD_eq_default _ _ (by simp; omega)]

theorem State.HoldsKey.exec_kpush {s t : State} {key : List Byte} {v : Byte} (h : s.HoldsKey key)
    (hexec : exec (.kpush v) s = .next t) : t.HoldsKey (key ++ [v]) := by
  cases hexec
  exact (h.appendKeyByte v).congr rfl rfl

/-- The key store determines the seed: each seed byte from it is the one of the source's buffer (R47). -/
theorem State.HoldsKey.seedByte_eq {s : State} {key : List Byte} (h : s.HoldsKey key) (hkey : key ≠ [])
    (f : SeedFill) (j : Fin 8) : seedByte f s.keybuf s.keylen j = seedBufByte f key j := by
  have hpos : 0 < key.length := List.length_pos_iff.mpr hkey
  have hj := j.isLt
  have hlen := h.keylen
  unfold seedByte seedBufByte
  by_cases hfirst : j.val < s.keylen.val
  · have hkeyj : j.val < key.length := by omega
    simp [hfirst, h.keybuf, List.getElem?_append_left, hkeyj]
  · have hn : s.keylen.val = key.length := by omega
    rw [if_neg hfirst, List.getElem?_append_right (by omega)]
    by_cases hsecond : j.val < 2 * s.keylen.val
    · have hkeyj : j.val - key.length < key.length := by omega
      rw [if_pos hsecond]
      simp [hn, h.keybuf, hkeyj]
    · have hpast : key.length ≤ j.val - key.length := by omega
      rw [if_neg hsecond, List.getElem?_eq_none hpast]
      cases f with
      | zero => rfl
      | cyclic => simp [hn, h.keybuf, fillByte]

/-- The four bytes SEED reads are positions 4 to 7 of the source's buffer (R47, R48). -/
theorem State.HoldsKey.storedSeedBytes_eq {s : State} {key : List Byte} (h : s.HoldsKey key) (hkey : key ≠ [])
    (f : SeedFill) : storedSeedBytes f s = sourceSeedBytes f key := by
  simp only [storedSeedBytes, h.seedByte_eq hkey]
  rfl

theorem State.HoldsKey.keylen_ne_zero {s : State} {key : List Byte} (h : s.HoldsKey key) (hkey : key ≠ []) :
    s.keylen ≠ 0 := by
  have hpos : 0 < key.length := List.length_pos_iff.mpr hkey
  have hlen := h.keylen
  intro h0
  simp [h0] at hlen
  omega

end Sys2Proof.Machine

/-! SUPPORT. The block meets the source's transform (00_scope.md R12, 42_transform.md R62): the runs of LOADKEY, SEED and
the XFORMs of a message, one after another. -/

namespace Sys2Proof.Machine

/-- The key bytes of LOADKEY after those already loaded. -/
theorem answers_kpushes (key : List Byte) {s : State} {loaded : List Byte} {rest : List CmdWord}
    (hs : s.HostOffers ((key.map .kpush).map encode ++ rest)) (hk : s.HoldsKey loaded) :
    ∃ t : State, Answers s (List.replicate key.length 0x000) t ∧ t.HostOffers rest ∧ t.HoldsKey (loaded ++ key) := by
  induction key generalizing s loaded with
  | nil => exact ⟨s, .refl s, hs, by simpa using hk⟩
  | cons v key ih =>
    obtain ⟨hans, hs'⟩ := answers_of_exec hs rfl rfl
    have hk' : (s.accepting ((key.map .kpush).map encode ++ rest)).HoldsKey loaded := hk.congr rfl rfl
    obtain ⟨t, hans', ht, hkt⟩ := ih hs' (hk'.exec_kpush rfl)
    exact ⟨t, hans.trans hans', ht, by simpa using hkt⟩

/-- LOADKEY answers OK to every command and leaves the key in the store (R45, R50, R51). -/
theorem answers_loadKey (key : List Byte) {s : State} {rest : List CmdWord}
    (hs : s.HostOffers ((loadKey key).map encode ++ rest)) :
    ∃ t : State, Answers s (List.replicate (key.length + 1) 0x000) t ∧ t.HostOffers rest ∧ t.HoldsKey key := by
  obtain ⟨hans, hs'⟩ := answers_of_exec hs rfl rfl
  obtain ⟨t, hans', ht, hkt⟩ := answers_kpushes key hs' (s.clearKeyStore_holdsKey.congr rfl rfl)
  exact ⟨t, hans.trans hans', ht, hkt⟩

/-- SEED with a key in the store answers OK and leaves the generator as the source seeds it (R48, R52). -/
theorem answers_seed {s : State} {key : List Byte} {rest : List CmdWord} (hs : s.HostOffers (encode .seed :: rest))
    (hk : s.HoldsKey key) (hkey : key ≠ []) :
    ∃ t : State, Answers s [0x000] t ∧ t.HostOffers rest ∧ t.seeded = true ∧
      t.gen = sourceSeed thisHardware.seedFill key := by
  obtain ⟨hans, ht⟩ := answers_of_exec hs (if_neg (hk.keylen_ne_zero hkey)) rfl
  exact ⟨_, hans, ht, rfl, congrArg seedGenerator (hk.storedSeedBytes_eq hkey _)⟩

/-- The XFORMs of a message, on a seeded block, answer the message met with the keystream from where the generator
stands, and change only the generator (R61, R62). -/
theorem answers_xforms (msg : List Byte) {s : State} {rest : List CmdWord}
    (hs : s.HostOffers ((msg.map .xform).map encode ++ rest)) (hseeded : s.seeded = true) :
    ∃ t : State,
      Answers s ((transformFrom thisHardware.bitTiming s.gen msg).map (fun b => (0b00#2 ++ b : RspWord))) t ∧
      t.HostOffers rest ∧ t.gen = advanceBytes thisHardware.bitTiming msg.length s.gen ∧
      t.keybuf = s.keybuf ∧ t.keylen = s.keylen ∧ t.seeded = true := by
  induction msg generalizing s with
  | nil => exact ⟨s, .refl s, hs, rfl, rfl, rfl, hseeded⟩
  | cons v msg ih =>
    obtain ⟨hans, hs'⟩ := answers_of_exec hs (if_pos hseeded) rfl
    obtain ⟨t, hans', ht, hgen, hbuf, hlen, hsd⟩ := ih hs' hseeded
    exact ⟨t, hans.trans hans', ht, hgen, hbuf, hlen, hsd⟩

/-- TRANSFORM with a key in the store answers OK to SEED and then the bytes of the source's transform (R45, R62). -/
theorem answers_transformMessage (msg : List Byte) {s : State} {key : List Byte} {rest : List CmdWord}
    (hs : s.HostOffers ((transformMessage msg).map encode ++ rest)) (hk : s.HoldsKey key) (hkey : key ≠ []) :
    ∃ t : State,
      Answers s (0x000 :: (sourceTransform thisHardware key msg).map (fun b => (0b00#2 ++ b : RspWord))) t ∧
      t.HostOffers rest := by
  obtain ⟨u, hseed, hu, hseeded, hgen⟩ := answers_seed hs hk hkey
  obtain ⟨t, hxforms, ht, -⟩ := answers_xforms msg hu hseeded
  rw [hgen] at hxforms
  exact ⟨t, hseed.trans hxforms, ht⟩

@[simp] theorem transformFrom_length (timing : BitTiming) (g : GeneratorState) (msg : List Byte) :
    (transformFrom timing g msg).length = msg.length := by
  induction msg generalizing g with
  | nil => rfl
  | cons v msg ih => simp [transformFrom, ih]

/-- Settles O40: the runs of LOADKEY and TRANSFORM, joined. -/
theorem blockComputesTheSourceTransform : Obligations.BlockComputesTheSourceTransform := by
  intro s key msg rest hkey hrst hready hidle hoffers
  have hs : s.HostOffers ((loadKey key).map encode ++ ((transformMessage msg).map encode ++ rest)) :=
    ⟨hrst, hready, by rw [hoffers, List.map_append, List.append_assoc]⟩
  obtain ⟨u, hload, hu, hk⟩ := answers_loadKey key hs
  obtain ⟨t, htransform, ht⟩ := answers_transformMessage msg hu hk hkey
  have hall := hload.trans htransform
  have hwait : s.NothingWaits := by simp [State.NothingWaits, hidle]
  refine ⟨t, ?_, ht.offers, ?_⟩
  · have hlength : key.length + msg.length + 2 = key.length + 1 + (msg.length + 1) := by omega
    simpa [sourceTransform, hlength] using hall.run
  · rw [ht.produced_eq_answered (hall.nothingWaits hwait), hall.answered, hs.produced_eq_answered hwait,
      List.replicate_succ' (n := key.length + 1)]
    simp

end Sys2Proof.Machine

/-! SUPPORT. What each command's meaning answers, one equation per case (40_key_seeder.md R50 to R52, 42_transform.md R61,
43_system.md R65). -/

namespace Sys2Proof.Machine

theorem exec_nop (s : State) : exec .nop s = .next (s.respond .ok 0x00) := rfl

theorem exec_kclr (s : State) : exec .kclr s = .next ((s.clearKeyStore.setSeeded false).respond .ok 0x00) := rfl

theorem exec_kpush (v : Byte) (s : State) :
    exec (.kpush v) s = .next (((s.appendKeyByte v).setSeeded false).respond .ok 0x00) := rfl

theorem exec_seed_of_empty {s : State} (h : s.keylen = 0) : exec .seed s = .next (s.fail .emptyKey) := if_pos h

theorem exec_seed_of_loaded {s : State} (h : s.keylen ≠ 0) :
    exec .seed s = .next (((s.reseed thisHardware).setSeeded true).respond .ok 0x00) := if_neg h

theorem exec_xform_of_seeded (v : Byte) {s : State} (h : s.seeded = true) :
    exec (.xform v) s =
      .next ((s.advance thisHardware).respond .ok (outputByte v (s.keystreamByte thisHardware))) := if_pos h

theorem exec_xform_of_not_seeded (v : Byte) {s : State} (h : s.seeded = false) :
    exec (.xform v) s = .next (s.fail .notSeeded) := if_neg (by simp [h])

/-- A key byte past the eighth is discarded (R51). -/
theorem State.appendKeyByte_of_full {s : State} (h : ¬ s.keylen.val < 8) (v : Byte) : s.appendKeyByte v = s := dif_neg h

/-! ### Steps, by the levels of the port -/

theorem step_of_rst {s : State} (hr : s.rst = true) : step s = .next s.applyReset := by
  simp [step, transaction, hr]

theorem step_of_idle {s : State} (hr : s.rst = false) (ho : s.outstanding = none) : step s = acceptOffer s := by
  simp [step, transaction, hr, ho]

theorem step_of_accepted {s : State} {o : Outstanding} (hr : s.rst = false) (ho : s.outstanding = some o)
    (hy : s.rspReady = true) : step s = acceptOffer (s.transfer o) := by
  simp [step, transaction, hr, ho, hy]

theorem step_of_withheld {s : State} {o : Outstanding} (hr : s.rst = false) (ho : s.outstanding = some o)
    (hy : s.rspReady = false) : step s = .next (s.setWait 0) := by
  simp [step, transaction, hr, ho, hy]

theorem acceptOffer_nil {s : State} (h : s.offers = []) : acceptOffer s = .next s := by
  simp [acceptOffer, h]

theorem acceptOffer_cons {s : State} {w : CmdWord} {rest : List CmdWord} (h : s.offers = w :: rest) :
    acceptOffer s = runWord w (s.takeOffer rest) := by
  simp [acceptOffer, h]

/-- A command accepted at an edge runs in full and then waits for its response's cycle (R33 item 4). -/
theorem acceptAtEdge_cons {s t : State} {w : CmdWord} {rest : List CmdWord} (h : s.offers = w :: rest)
    (hrun : runWord w (s.takeOffer rest) = .next t) :
    acceptAtEdge s = .next (t.setWait (responseWait w s.draw)) := by
  simp [acceptAtEdge, h, hrun]

theorem acceptAtEdge_nil {s : State} (h : s.offers = []) : acceptAtEdge s = .next s := by
  simp [acceptAtEdge, h]

end Sys2Proof.Machine

/-! SUPPORT. The registers right after a seeding (40_key_seeder.md R48, 10_state.md R23) and register A under clock steps
(41_keystream_generator.md R59 item 4). -/

namespace Sys2Proof.Machine

/-- Four seed bytes push every bit of the starting value out of the register (R48). -/
theorem foldl_feedSeedByte_four (r : Word) (a b c d : Byte) :
    [a, b, c, d].foldl feedSeedByte r = a ++ b ++ c ++ d := by
  apply BitVec.eq_of_getLsbD_eq
  intro i hi
  simp only [List.foldl, feedSeedByte, seedOperand, BitVec.getLsbD_or, BitVec.getLsbD_shiftLeft, BitVec.getLsbD_setWidth,
    BitVec.getLsbD_append]
  grind

/-- A register's seeding from four bytes: the word they make, or the default where that word is zero (R48). -/
theorem seedRegister_four (dflt : Word) (a b c d : Byte) :
    seedRegister dflt [a, b, c, d] = if (a ++ b ++ c ++ d : Word) = 0 then dflt else a ++ b ++ c ++ d := by
  rw [seedRegister, foldl_feedSeedByte_four]

theorem seedRegister_ne_zero {dflt : Word} (h : dflt ≠ 0) (bytes : List Byte) : seedRegister dflt bytes ≠ 0 := by
  unfold seedRegister
  split
  · exact h
  · assumption

/-- I4 of R23: the seeding takes the default of all three registers or of none. -/
theorem seedGenerator_regs_four {g : GeneratorState} {a b c d : Byte} (hg : g = seedGenerator [a, b, c, d]) :
    (g.regA = g.regB ∧ g.regB = g.regC) ∨ (g.regA = defaultA ∧ g.regB = defaultB ∧ g.regC = defaultC) := by
  subst hg
  simp only [seedGenerator, seedRegister_four]
  by_cases hw : (a ++ b ++ c ++ d : Word) = 0
  · exact .inr ⟨if_pos hw, if_pos hw, if_pos hw⟩
  · exact .inl ⟨(if_neg hw).trans (if_neg hw).symm, (if_neg hw).trans (if_neg hw).symm⟩

/-! ### Register A -/

theorem lowBit_eq_false_iff (x : Word) : lowBit x = false ↔ x.toNat % 2 = 0 := by
  simp [lowBit, BitVec.getLsbD, Nat.testBit_zero]

/-- The truncation mask of A clears no bit a shift leaves (R54). -/
theorem shiftMask_truncConstA_toNat (x : Word) : (shiftMask x truncConstA).toNat = x.toNat / 2 := by
  have hmask : truncConstA.toNat = 2 ^ 31 - 1 := rfl
  have hx := x.isLt
  rw [shiftMask, BitVec.toNat_and, hmask, Nat.and_two_pow_sub_one_eq_mod, BitVec.toNat_ushiftRight,
    Nat.shiftRight_eq_div_pow]
  omega

theorem feedbackMask_ne_zero {fixed : Word} (h : fixed ≠ 0) (x mask : Word) : feedbackMask x mask fixed ≠ 0 := by
  unfold feedbackMask
  intro h0
  exact h (BitVec.or_eq_zero_iff.mp h0).2

theorem clockStep_regA_ne_zero {g : GeneratorState} (h : g.regA ≠ 0) : g.clockStep.regA ≠ 0 := by
  cases hlow : lowBit g.regA with
  | false =>
    rw [g.clockStep_of_even hlow]
    have heven := (lowBit_eq_false_iff _).mp hlow
    have hpos : g.regA.toNat ≠ 0 := fun h0 => h (BitVec.eq_of_toNat_eq h0)
    intro h0
    have hshift : g.regA.toNat / 2 = 0 := by rw [← shiftMask_truncConstA_toNat]; exact congrArg BitVec.toNat h0
    omega
  | true =>
    rw [g.clockStep_of_odd hlow]
    exact feedbackMask_ne_zero (by decide) _ _

/-- Through any number of clock steps (R59 item 4). -/
theorem clockStep_iterate_regA_ne_zero (n : Nat) {g : GeneratorState} (h : g.regA ≠ 0) :
    (GeneratorState.clockStep^[n] g).regA ≠ 0 := by
  induction n generalizing g with
  | zero => exact h
  | succ n ih => exact ih (clockStep_regA_ne_zero h)

theorem nextByte_regA_ne_zero (t : BitTiming) {g : GeneratorState} (h : g.regA ≠ 0) : (nextByte t g).2.regA ≠ 0 := by
  rw [nextByte, clockLoop_state]
  exact clockStep_iterate_regA_ne_zero 8 (g := g.capture) h

/-- The state after `n` keystream bytes and one more. -/
theorem advanceBytes_succ (t : BitTiming) (n : Nat) (g : GeneratorState) :
    advanceBytes t (n + 1) g = (nextByte t (advanceBytes t n g)).2 := advanceBytes_add t n 1 g

/-- Settles O20: by the word that the four seed bytes make. -/
theorem seededRegistersAreNotZero : Obligations.SeededRegistersAreNotZero := by
  intro s t hexec hlen
  cases (exec_seed_of_loaded hlen).symm.trans hexec
  exact ⟨seedRegister_ne_zero (by decide) _, seedRegister_ne_zero (by decide) _, seedRegister_ne_zero (by decide) _,
    seedGenerator_regs_four rfl⟩

end Sys2Proof.Machine

/-! SUPPORT. The invariant of 10_state.md R23 (with R16, R18, R38) under every operation, command, step and clock edge. -/

namespace Sys2Proof.Machine

/-! ### Responses -/

@[simp] theorem statusOf_responseWord (st : Status) (d : Byte) : statusOf (responseWord st d) = st := by
  have hcode : (responseWord st d).extractLsb' 8 2 = st.code := BitVec.extractLsb'_append_eq_left
  rw [statusOf, hcode]
  cases st <;> rfl

@[simp] theorem dataOf_responseWord (st : Status) (d : Byte) : dataOf (responseWord st d) = d :=
  BitVec.extractLsb'_append_eq_right

theorem legalResponse_ok (d : Byte) : LegalResponse (responseWord .ok d) := fun h => absurd (by simp) h

theorem legalResponse_no_data (st : Status) : LegalResponse (responseWord st 0x00) := fun _ => by simp

/-! ### The invariant under the operations of the state -/

/-- Where only the port has changed, the invariant asks only about the port. -/
theorem BlockInvariant.of_same_block {s t : State} (h : BlockInvariant s) (hgen : t.gen = s.gen)
    (hbuf : t.keybuf = s.keybuf) (hlen : t.keylen = s.keylen) (hseeded : t.seeded = s.seeded)
    (hout : ∀ o, t.outstanding = some o → LegalResponse o.word) (hrec : ∀ r ∈ t.received, LegalResponse r) :
    BlockInvariant t where
  seeded_keylen := by rw [hseeded, hlen]; exact h.seeded_keylen
  keybuf_tail := by rw [hlen, hbuf]; exact h.keybuf_tail
  seeded_gen := by rw [hseeded, hgen, storedSeedBytes_congr _ t s hbuf hlen]; exact h.seeded_gen
  seeded_regA := by rw [hseeded, hgen]; exact h.seeded_regA
  outstanding_legal := hout
  received_legal := hrec

/-- While SEEDED is 0 the generator is free, and only the key store past KEYLEN and the responses count. -/
theorem BlockInvariant.of_not_seeded {s : State} (hseeded : s.seeded = false)
    (htail : ∀ j : Fin 8, s.keylen.val ≤ j.val → s.keybuf[j.val] = 0x00)
    (hout : ∀ o, s.outstanding = some o → LegalResponse o.word) (hrec : ∀ r ∈ s.received, LegalResponse r) :
    BlockInvariant s where
  seeded_keylen := by simp [hseeded]
  keybuf_tail := htail
  seeded_gen := by simp [hseeded]
  seeded_regA := by simp [hseeded]
  outstanding_legal := hout
  received_legal := hrec

section
variable {s : State} (h : BlockInvariant s)
include h

theorem BlockInvariant.after_respond {st : Status} {d : Byte} (hlegal : LegalResponse (responseWord st d)) :
    BlockInvariant (s.respond st d) :=
  h.of_same_block rfl rfl rfl rfl (by rintro o ⟨⟩; exact hlegal) h.received_legal

theorem BlockInvariant.after_fail (st : Status) : BlockInvariant (s.fail st) :=
  h.after_respond (legalResponse_no_data st)

theorem BlockInvariant.after_takeOffer (rest : List CmdWord) : BlockInvariant (s.takeOffer rest) :=
  h.of_same_block rfl rfl rfl rfl h.outstanding_legal h.received_legal

theorem BlockInvariant.after_setWait (n : Nat) : BlockInvariant (s.setWait n) := by
  refine h.of_same_block rfl rfl rfl rfl ?_ h.received_legal
  intro o ho
  obtain ⟨o', ho', rfl⟩ := Option.map_eq_some_iff.mp ho
  exact h.outstanding_legal o' ho'

theorem BlockInvariant.after_transfer {o : Outstanding} (ho : s.outstanding = some o) :
    BlockInvariant (s.transfer o) := by
  refine h.of_same_block rfl rfl rfl rfl (by rintro o ⟨⟩) ?_
  intro r hr
  rcases List.mem_append.mp hr with hold | hnew
  · exact h.received_legal r hold
  · rw [List.mem_singleton.mp hnew]
    exact h.outstanding_legal o ho

theorem BlockInvariant.after_applyReset : BlockInvariant s.applyReset :=
  .of_not_seeded rfl (by intro j _; simp) (by rintro o ⟨⟩) h.received_legal

theorem BlockInvariant.after_clearKeyStore : BlockInvariant (s.clearKeyStore.setSeeded false) :=
  .of_not_seeded rfl (by intro j _; simp) h.outstanding_legal h.received_legal

theorem BlockInvariant.after_appendKeyByte (v : Byte) : BlockInvariant ((s.appendKeyByte v).setSeeded false) := by
  refine .of_not_seeded rfl ?_ (by simpa using h.outstanding_legal) (by simpa using h.received_legal)
  intro j hj
  simp only [State.setSeeded_keylen, State.appendKeyByte_keylen, State.setSeeded_keybuf] at hj ⊢
  rw [State.appendKeyByte_keybuf, if_neg (by omega), h.keybuf_tail j (by omega)]

/-- SEED starts a keystream at byte 0 (R18, R52). -/
theorem BlockInvariant.after_reseed (hlen : s.keylen ≠ 0) :
    BlockInvariant ((s.reseed thisHardware).setSeeded true) where
  seeded_keylen _ := Nat.one_le_iff_ne_zero.mpr fun h0 => hlen (Fin.ext h0)
  keybuf_tail := h.keybuf_tail
  seeded_gen _ := ⟨0, rfl⟩
  seeded_regA _ := seedRegister_ne_zero (by decide) _
  outstanding_legal := h.outstanding_legal
  received_legal := h.received_legal

/-- One keystream byte more since the SEED (R18, R58). -/
theorem BlockInvariant.after_advance : BlockInvariant (s.advance thisHardware) where
  seeded_keylen := h.seeded_keylen
  keybuf_tail := h.keybuf_tail
  seeded_gen hseeded := by
    obtain ⟨n, hn⟩ := h.seeded_gen hseeded
    refine ⟨n + 1, ?_⟩
    rw [State.advance_gen, hn, advanceBytes_succ]
    rfl
  seeded_regA hseeded := nextByte_regA_ne_zero thisHardware.bitTiming (h.seeded_regA hseeded)
  outstanding_legal := h.outstanding_legal
  received_legal := h.received_legal

/-! ### The invariant under commands, steps and edges -/

theorem BlockInvariant.after_exec {i : Instr} {t : State} (hexec : exec i s = .next t) : BlockInvariant t := by
  cases i with
  | nop =>
    cases (exec_nop s).symm.trans hexec
    exact h.after_respond (legalResponse_ok _)
  | kclr =>
    cases (exec_kclr s).symm.trans hexec
    exact h.after_clearKeyStore.after_respond (legalResponse_ok _)
  | kpush v =>
    cases (exec_kpush v s).symm.trans hexec
    exact (h.after_appendKeyByte v).after_respond (legalResponse_ok _)
  | seed =>
    by_cases hlen : s.keylen = 0
    · cases (exec_seed_of_empty hlen).symm.trans hexec
      exact h.after_fail _
    · cases (exec_seed_of_loaded hlen).symm.trans hexec
      exact (h.after_reseed hlen).after_respond (legalResponse_ok _)
  | xform v =>
    cases hseeded : s.seeded with
    | false =>
      cases (exec_xform_of_not_seeded v hseeded).symm.trans hexec
      exact h.after_fail _
    | true =>
      cases (exec_xform_of_seeded v hseeded).symm.trans hexec
      exact h.after_advance.after_respond (legalResponse_ok _)

theorem BlockInvariant.after_runWord {w : CmdWord} {t : State} (hrun : runWord w s = .next t) : BlockInvariant t := by
  obtain ⟨i, -, hi⟩ | ⟨e, -, he⟩ := runWord_cases w s
  · exact h.after_exec (hi.symm.trans hrun)
  · cases he.symm.trans hrun
    exact h.after_fail _

theorem BlockInvariant.after_acceptOffer {t : State} (haccept : acceptOffer s = .next t) : BlockInvariant t := by
  cases hoffers : s.offers with
  | nil =>
    cases (acceptOffer_nil hoffers).symm.trans haccept
    exact h
  | cons w rest => exact (h.after_takeOffer rest).after_runWord ((acceptOffer_cons hoffers).symm.trans haccept)

theorem BlockInvariant.after_acceptAtEdge {t : State} (haccept : acceptAtEdge s = .next t) : BlockInvariant t := by
  cases hoffers : s.offers with
  | nil =>
    cases (acceptAtEdge_nil hoffers).symm.trans haccept
    exact h
  | cons w rest =>
    obtain ⟨u, -, hrun, -⟩ := runWord_answers w (s.takeOffer rest)
    cases (acceptAtEdge_cons hoffers hrun).symm.trans haccept
    exact ((h.after_takeOffer rest).after_runWord hrun).after_setWait _

end

/-- Settles O54: nothing is seeded, stored or answered at reset. -/
theorem invariantHoldsAtReset : Obligations.InvariantHoldsAtReset :=
  .of_not_seeded rfl (by intro j _; simp [State.reset]) (by rintro o ⟨⟩) (by simp [State.reset])

/-- Settles O55: by what a transaction can do. -/
theorem everyStepKeepsTheInvariant : Obligations.EveryStepKeepsTheInvariant := by
  intro s t h hstep
  unfold step at hstep
  obtain ⟨-, htr⟩ | ⟨-, -, htr⟩ | ⟨o, -, ho, -, htr⟩ | ⟨o, -, -, -, htr⟩ := transaction_cases s
  · cases htr.symm.trans hstep
    exact h.after_applyReset
  · exact h.after_acceptOffer (htr.symm.trans hstep)
  · exact (h.after_transfer ho).after_acceptOffer (htr.symm.trans hstep)
  · cases htr.symm.trans hstep
    exact h.after_setWait 0

/-- Settles O56: by what a clock edge can do. -/
theorem everyClockEdgeKeepsTheInvariant : Obligations.EveryClockEdgeKeepsTheInvariant := by
  intro s t h hedge
  obtain ⟨-, he⟩ | ⟨-, -, he⟩ | ⟨o, -, -, -, he⟩ | ⟨o, -, ho, -, -, he⟩ | ⟨o, -, -, -, -, he⟩ := clockEdge_cases s
  · cases he.symm.trans hedge
    exact h.after_applyReset
  · exact h.after_acceptAtEdge (he.symm.trans hedge)
  · cases he.symm.trans hedge
    exact h.after_setWait _
  · cases he.symm.trans hedge
    exact h.after_transfer ho
  · cases he.symm.trans hedge
    exact h

end Sys2Proof.Machine

/-! SUPPORT. What the host cannot tell apart (10_state.md R14, R25, 60_exceptions.md R72), kept by every command and step. -/

namespace Sys2Proof.Machine

/-! ### One state with another generator -/

/-- The state with `g` for its generator. -/
def State.withGen (s : State) (g : GeneratorState) : State := { s with gen := g }

@[simp] theorem State.withGen_gen (s : State) (g : GeneratorState) : (s.withGen g).gen = g := rfl

theorem State.appendKeyByte_withGen (s : State) (g : GeneratorState) (v : Byte) :
    (s.withGen g).appendKeyByte v = (s.appendKeyByte v).withGen g := by
  by_cases hlen : s.keylen.val < 8
  · simp [State.appendKeyByte, State.withGen, hlen]
  · rw [State.appendKeyByte_of_full hlen, State.appendKeyByte_of_full (s := s.withGen g) hlen]

theorem Indistinguishable.refl (s : State) : Indistinguishable s s := ⟨rfl, fun _ => ⟨rfl, rfl, rfl⟩⟩

/-- Two states the host cannot tell apart are one state with two generators. -/
theorem Indistinguishable.exists_withGen {s s' : State} (h : Indistinguishable s s') :
    ∃ g, s' = s.withGen g ∧
      (s.seeded = true → s.gen.regA = g.regA ∧ s.gen.regB = g.regB ∧ s.gen.regC = g.regC) :=
  ⟨s'.gen, h.same_rest.symm, h.same_regs⟩

/-- An operation that keeps the generator, does not look at it and does not set SEEDED keeps two states alike. -/
theorem Indistinguishable.map {s s' : State} (h : Indistinguishable s s') (f : State → State)
    (hf : ∀ u g, f (u.withGen g) = (f u).withGen g) (hgen : (f s).gen = s.gen)
    (hseeded : (f s).seeded = true → s.seeded = true) : Indistinguishable (f s) (f s') := by
  obtain ⟨g, rfl, hregs⟩ := h.exists_withGen
  rw [hf]
  refine ⟨rfl, fun hs => ?_⟩
  rw [hgen]
  exact hregs (hseeded hs)

/-- The host sees the same of both. -/
theorem Indistinguishable.same_responses {s s' : State} (h : Indistinguishable s s') :
    s.answered = s'.answered ∧ s.produced = s'.produced := by
  obtain ⟨g, rfl, -⟩ := h.exists_withGen
  exact ⟨rfl, rfl⟩

/-! ### Commands and steps -/

/-- Both outcomes are next states, and the host cannot tell these apart. -/
def NextAlike (o o' : Host.Outcome State Fault Refusal) : Prop :=
  ∃ t t', o = .next t ∧ o' = .next t' ∧ Indistinguishable t t'

theorem NextAlike.next {t t' : State} (h : Indistinguishable t t') : NextAlike (.next t) (.next t') :=
  ⟨t, t', rfl, rfl, h⟩

theorem State.advance_withGen {s : State} {g : GeneratorState} (cfg : Config)
    (h : s.gen.regA = g.regA ∧ s.gen.regB = g.regB ∧ s.gen.regC = g.regC) :
    (s.withGen g).advance cfg = s.advance cfg ∧ (s.withGen g).keystreamByte cfg = s.keystreamByte cfg := by
  obtain ⟨ha, hb, hc⟩ := h
  have hnext : nextByte cfg.bitTiming g = nextByte cfg.bitTiming s.gen := by
    rw [nextByte, nextByte, capture_congr s.gen g ha hb hc]
  constructor
  · simp only [State.advance, State.withGen_gen, hnext]
    rfl
  · simp only [State.keystreamByte, State.withGen_gen, hnext]

/-- SEED overwrites the whole generator and XFORM both carries before it uses them (R14, R25); the other commands do
not look at the generator. -/
theorem Indistinguishable.exec_alike {s s' : State} (h : Indistinguishable s s') (i : Instr) :
    NextAlike (exec i s) (exec i s') := by
  cases i with
  | nop => exact .next (h.map (·.respond .ok 0x00) (fun _ _ => rfl) rfl id)
  | kclr =>
    exact .next (h.map (fun u => (u.clearKeyStore.setSeeded false).respond .ok 0x00) (fun _ _ => rfl) rfl (by simp))
  | kpush v =>
    refine .next (h.map (fun u => ((u.appendKeyByte v).setSeeded false).respond .ok 0x00) ?_ (by simp) (by simp))
    intro u g
    simp only [State.appendKeyByte_withGen]
    rfl
  | seed =>
    obtain ⟨g, rfl, -⟩ := h.exists_withGen
    by_cases hlen : s.keylen = 0
    · rw [exec_seed_of_empty hlen, exec_seed_of_empty (s := s.withGen g) hlen]
      exact .next (h.map (·.fail .emptyKey) (fun _ _ => rfl) rfl id)
    · rw [exec_seed_of_loaded hlen, exec_seed_of_loaded (s := s.withGen g) hlen]
      exact .next (.refl _)
  | xform v =>
    obtain ⟨g, rfl, hregs⟩ := h.exists_withGen
    cases hseeded : s.seeded with
    | false =>
      rw [exec_xform_of_not_seeded v hseeded, exec_xform_of_not_seeded (s := s.withGen g) v hseeded]
      exact .next (h.map (·.fail .notSeeded) (fun _ _ => rfl) rfl id)
    | true =>
      obtain ⟨hadvance, hbyte⟩ := State.advance_withGen thisHardware (hregs hseeded)
      rw [exec_xform_of_seeded v hseeded, exec_xform_of_seeded (s := s.withGen g) v hseeded, hadvance, hbyte]
      exact .next (.refl _)

theorem Indistinguishable.runWord_alike {s s' : State} (h : Indistinguishable s s') (w : CmdWord) :
    NextAlike (runWord w s) (runWord w s') := by
  unfold runWord
  cases decode w with
  | ok i => exact h.exec_alike i
  | error e => exact .next (h.map (·.fail .illegal) (fun _ _ => rfl) rfl id)

theorem Indistinguishable.acceptOffer_alike {s s' : State} (h : Indistinguishable s s') :
    NextAlike (acceptOffer s) (acceptOffer s') := by
  obtain ⟨g, rfl, -⟩ := h.exists_withGen
  cases hoffers : s.offers with
  | nil =>
    rw [acceptOffer_nil hoffers, acceptOffer_nil (s := s.withGen g) hoffers]
    exact .next h
  | cons w rest =>
    rw [acceptOffer_cons hoffers, acceptOffer_cons (s := s.withGen g) hoffers]
    exact (h.map (·.takeOffer rest) (fun _ _ => rfl) rfl id).runWord_alike w

theorem Indistinguishable.step_alike {s s' : State} (h : Indistinguishable s s') : NextAlike (step s) (step s') := by
  obtain ⟨g, rfl, -⟩ := h.exists_withGen
  cases hr : s.rst with
  | true =>
    rw [step_of_rst hr, step_of_rst (s := s.withGen g) hr]
    exact .next (.refl _)
  | false =>
    cases ho : s.outstanding with
    | none =>
      rw [step_of_idle hr ho, step_of_idle (s := s.withGen g) hr ho]
      exact h.acceptOffer_alike
    | some o =>
      cases hy : s.rspReady with
      | true =>
        rw [step_of_accepted hr ho hy, step_of_accepted (s := s.withGen g) hr ho hy]
        exact (h.map (·.transfer o) (fun _ _ => rfl) rfl id).acceptOffer_alike
      | false =>
        rw [step_of_withheld hr ho hy, step_of_withheld (s := s.withGen g) hr ho hy]
        exact .next (h.map (·.setWait 0) (fun _ _ => rfl) rfl id)

theorem run_succ_of_step (n : Nat) {s t : State} (h : step s = .next t) :
    Sys2Proof.core.run (n + 1) s = Sys2Proof.core.run n t := by
  rw [Nat.add_comm]
  exact run_add _ n (run_one h)

/-- Settles O57, by induction on the number of steps. -/
theorem hiddenStateNeverShowsInResponses : Obligations.HiddenStateNeverShowsInResponses := by
  intro n
  induction n with
  | zero => exact fun s s' h => ⟨s, s', rfl, rfl, h, h.same_responses⟩
  | succ n ih =>
    intro s s' h
    obtain ⟨u, u', hstep, hstep', hu⟩ := h.step_alike
    rw [run_succ_of_step n hstep, run_succ_of_step n hstep']
    exact ih u u' hu

end Sys2Proof.Machine

/-! SUPPORT. The state elements: their constants, their reset values, the commands that write them (10_state.md R13 to
R25), and what LOADKEY leaves in the key store (20_memory.md R28). -/

namespace Sys2Proof.Machine

/-- Settles O8, constant by constant. -/
theorem constantRomIsTheOneOfTheSpec : Obligations.ConstantRomIsTheOneOfTheSpec :=
  ⟨⟨rfl, rfl, by decide, rfl, rfl⟩, ⟨rfl, rfl, by decide, rfl, rfl⟩, rfl, rfl, by decide, rfl, rfl⟩

/-- Settles O44, element by element. -/
theorem resetValuesAreThoseOfTheSpec : Obligations.ResetValuesAreThoseOfTheSpec :=
  ⟨rfl, rfl, rfl, rfl, rfl, fun j => by simp [State.reset], rfl, rfl, rfl⟩

/-- Settles O43, command by command. -/
theorem onlyTheNamedCommandsWriteAnElement : Obligations.OnlyTheNamedCommandsWriteAnElement := by
  intro i s t hexec
  cases i with
  | nop =>
    cases (exec_nop s).symm.trans hexec
    simp
  | kclr =>
    cases (exec_kclr s).symm.trans hexec
    simp
  | kpush v =>
    cases (exec_kpush v s).symm.trans hexec
    by_cases hlen : s.keylen.val < 8
    · simp [hlen]
    · simp [State.appendKeyByte_of_full hlen]
  | seed =>
    by_cases hlen : s.keylen = 0
    · cases (exec_seed_of_empty hlen).symm.trans hexec
      simp +contextual
    · cases (exec_seed_of_loaded hlen).symm.trans hexec
      simp [hlen]
  | xform v =>
    cases hseeded : s.seeded with
    | false =>
      cases (exec_xform_of_not_seeded v hseeded).symm.trans hexec
      simp [hseeded]
    | true =>
      cases (exec_xform_of_seeded v hseeded).symm.trans hexec
      simp [hseeded]

/-! ### LOADKEY -/

theorem execAll_cons {i : Instr} {is : List Instr} {s t : State} (h : exec i s = .next t) :
    execAll (i :: is) s = execAll is t := by
  simp [execAll, h]

/-- The key bytes after those already loaded: of an unseeded state that has answered OK, only the key store changes. -/
theorem execAll_kpushes (key : List Byte) {s : State} {loaded : List Byte} (hk : s.HoldsKey loaded)
    (hseeded : s.seeded = false) (ho : s.outstanding = some { word := 0x000, wait := 0 }) :
    ∃ t : State, execAll (key.map .kpush) s = .next t ∧ t.HoldsKey (loaded ++ key) ∧
      t = { s with keybuf := t.keybuf, keylen := t.keylen } := by
  induction key generalizing s loaded with
  | nil => exact ⟨s, rfl, by simpa using hk, rfl⟩
  | cons v key ih =>
    obtain ⟨t, hrun, hkt, hframe⟩ := ih (hk.exec_kpush (exec_kpush v s)) rfl rfl
    refine ⟨t, (execAll_cons (exec_kpush v s)).trans hrun, by simpa using hkt, hframe.trans ?_⟩
    simp [hseeded, ho, responseWord, Status.code]

/-- Settles O14: KCLR leaves the empty key, and each KPUSH adds its byte. -/
theorem loadedKeyIsStoredInOrder : Obligations.LoadedKeyIsStoredInOrder := by
  intro key s
  have hclear : ((s.clearKeyStore.setSeeded false).respond .ok 0x00).HoldsKey [] :=
    s.clearKeyStore_holdsKey.congr rfl rfl
  obtain ⟨t, hrun, hk, hframe⟩ := execAll_kpushes key hclear rfl rfl
  exact ⟨t, (execAll_cons (exec_kclr s)).trans hrun, hk.keylen, by rw [hframe]; rfl, fun j => hk.keybuf j j.isLt, hframe⟩

end Sys2Proof.Machine

/-! SUPPORT. The decoder on the two fields of a word, and its agreement with the encoder (30_encoding.md R35, R39 to
R41). -/

namespace Sys2Proof.Machine

/-! ### The two fields of a word -/

theorem op_append_imm (w : CmdWord) : (CmdWord.op w ++ CmdWord.imm w : CmdWord) = w :=
  (BitVec.extractLsb'_append_extractLsb'_eq_extractLsb' rfl).trans BitVec.extractLsb'_eq_self

theorem exists_fields (w : CmdWord) : ∃ op imm : Byte, w = op ++ imm := ⟨_, _, (op_append_imm w).symm⟩

/-- The opcodes are those of the rows of R39 and the reserved ones of R41. -/
theorem opcode_cases (op : Byte) :
    op = 0x00#8 ∨ op = 0x01#8 ∨ op = 0x02#8 ∨ op = 0x03#8 ∨ op = 0x04#8 ∨ 0x05 ≤ op.toNat := by
  bv_omega

theorem ne_of_reserved {op : Byte} (h : 0x05 ≤ op.toNat) :
    op ≠ 0x00#8 ∧ op ≠ 0x01#8 ∧ op ≠ 0x02#8 ∧ op ≠ 0x03#8 ∧ op ≠ 0x04#8 := by
  bv_omega

/-! ### The decoder, opcode by opcode -/

theorem bareCommand_of_zero {w : CmdWord} (h : CmdWord.imm w = 0x00#8) (i : Instr) : bareCommand w i = .ok i := if_pos h

theorem bareCommand_of_nonzero {w : CmdWord} (h : CmdWord.imm w ≠ 0x00#8) (i : Instr) :
    bareCommand w i = .error .operandNotZero := if_neg h

theorem bareCommand_eq_ok_iff {w : CmdWord} {i j : Instr} :
    bareCommand w i = .ok j ↔ CmdWord.imm w = 0x00#8 ∧ i = j := by
  by_cases h : CmdWord.imm w = 0x00#8
  · simp [bareCommand_of_zero h, h]
  · simp [bareCommand_of_nonzero h, h]

theorem bareCommand_toOption (w : CmdWord) (i : Instr) :
    (bareCommand w i).toOption = if CmdWord.imm w = 0x00#8 then some i else none := by
  by_cases h : CmdWord.imm w = 0x00#8
  · rw [bareCommand_of_zero h, if_pos h]
    rfl
  · rw [bareCommand_of_nonzero h, if_neg h]
    rfl

theorem decode_nop_fields (imm : Byte) : decode (0x00#8 ++ imm) = bareCommand (0x00#8 ++ imm) .nop := by
  simp [decode]

theorem decode_kclr_fields (imm : Byte) : decode (0x01#8 ++ imm) = bareCommand (0x01#8 ++ imm) .kclr := by
  simp [decode]

theorem decode_kpush_fields (imm : Byte) : decode (0x02#8 ++ imm) = .ok (.kpush imm) := by
  rw [← encode_kpush, decode_encode]

theorem decode_seed_fields (imm : Byte) : decode (0x03#8 ++ imm) = bareCommand (0x03#8 ++ imm) .seed := by
  simp [decode]

theorem decode_xform_fields (imm : Byte) : decode (0x04#8 ++ imm) = .ok (.xform imm) := by
  rw [← encode_xform, decode_encode]

theorem decode_reserved_fields {op : Byte} (h : 0x05 ≤ op.toNat) (imm : Byte) :
    decode (op ++ imm) = .error .reservedOpcode := by
  simp [decode, ne_of_reserved h]

/-- A command without operand has the one word with `IMM8` = 0x00. -/
theorem encode_eq_of_bareCommand {op imm : Byte} {i j : Instr} (hword : encode i = op ++ 0x00#8)
    (h : bareCommand (op ++ imm) i = .ok j) : encode j = op ++ imm := by
  obtain ⟨himm, rfl⟩ := bareCommand_eq_ok_iff.mp h
  rw [imm_append] at himm
  rw [hword, himm]

/-- A word that decodes is the word of its command, and no other (R39, R40). -/
theorem decode_eq_ok_iff {w : CmdWord} {i : Instr} : decode w = .ok i ↔ encode i = w := by
  refine ⟨fun h => ?_, fun h => h ▸ decode_encode i⟩
  obtain ⟨op, imm, rfl⟩ := exists_fields w
  obtain rfl | rfl | rfl | rfl | rfl | hop := opcode_cases op
  · exact encode_eq_of_bareCommand rfl ((decode_nop_fields imm).symm.trans h)
  · exact encode_eq_of_bareCommand rfl ((decode_kclr_fields imm).symm.trans h)
  · cases (decode_kpush_fields imm).symm.trans h
    exact encode_kpush imm
  · exact encode_eq_of_bareCommand rfl ((decode_seed_fields imm).symm.trans h)
  · cases (decode_xform_fields imm).symm.trans h
    exact encode_xform imm
  · cases (decode_reserved_fields hop imm).symm.trans h

/-- Settles O1, by the opcodes. -/
theorem decodeAndEncodeAreInverse : Obligations.DecodeAndEncodeAreInverse :=
  ⟨decode_encode, fun _ _ => decode_eq_ok_iff.mp⟩

/-- Settles O2, opcode by opcode. -/
theorem decoderIsTheOneOfTheSpec : Obligations.DecoderIsTheOneOfTheSpec := by
  intro op imm
  obtain rfl | rfl | rfl | rfl | rfl | hop := opcode_cases op
  · simp [decode_nop_fields, bareCommand_toOption]
  · simp [decode_kclr_fields, bareCommand_toOption]
  · simp [decode_kpush_fields, Except.toOption]
  · simp [decode_seed_fields, bareCommand_toOption]
  · simp [decode_xform_fields, Except.toOption]
  · simp [decode_reserved_fields hop, ne_of_reserved hop, Except.toOption]

/-- Settles O4: each word is the encoding of its command. -/
theorem sampleWordsDecodeRight : Obligations.SampleWordsDecodeRight :=
  ⟨decode_encode .nop, decode_encode .kclr, decode_encode (.kpush 0x61), decode_encode (.kpush 0xff),
    decode_encode .seed, decode_encode (.xform 0x41), decode_encode (.xform 0x00)⟩

end Sys2Proof.Machine

/-! SUPPORT. The opcode map against the encoder: which words its rows select (30_encoding.md R39). -/

namespace Sys2Proof.Machine

/-! ### The row of a command -/

/-- The row of the opcode map that a command's word selects (R39). -/
def rowOf : Instr → OpcodeRow
  | .nop => ⟨"NOP", 0x0000, 0xffff⟩
  | .kclr => ⟨"KCLR", 0x0100, 0xffff⟩
  | .kpush _ => ⟨"KPUSH", 0x0200, 0xff00⟩
  | .seed => ⟨"SEED", 0x0300, 0xffff⟩
  | .xform _ => ⟨"XFORM", 0x0400, 0xff00⟩

theorem rowOf_mem (i : Instr) : rowOf i ∈ opcodeTable := by
  cases i <;> simp [rowOf, opcodeTable]

theorem selects_iff (r : OpcodeRow) (w : CmdWord) : r.selects w = true ↔ w &&& r.mask = r.pattern := beq_iff_eq

/-- The mask 0xff00 keeps `OP` and drops `IMM8`. -/
theorem fields_and_opcode_mask (op imm : Byte) : (op ++ imm : CmdWord) &&& (0xff#8 ++ 0x00#8) = op ++ 0x00#8 := by
  have hop : op &&& 0xff#8 = op := BitVec.and_allOnes
  rw [BitVec.and_append, hop, BitVec.and_zero]

theorem rowOf_selects (i : Instr) : (rowOf i).selects (encode i) = true := by
  rw [selects_iff]
  cases i with
  | nop => rfl
  | kclr => rfl
  | kpush v =>
    rw [encode_kpush]
    exact fields_and_opcode_mask 0x02#8 v
  | seed => rfl
  | xform v =>
    rw [encode_xform]
    exact fields_and_opcode_mask 0x04#8 v

/-! ### The words a row selects -/

/-- Every mask keeps the whole of `OP`. -/
theorem op_eq_of_selects {r : OpcodeRow} {w : CmdWord} (hr : r ∈ opcodeTable) (h : r.selects w = true) :
    CmdWord.op w = CmdWord.op r.pattern := by
  have hmask : ∀ r ∈ opcodeTable, CmdWord.op r.mask = BitVec.allOnes 8 := by decide
  calc CmdWord.op w = CmdWord.op w &&& CmdWord.op r.mask := by rw [hmask r hr, BitVec.and_allOnes]
    _ = CmdWord.op (w &&& r.mask) := BitVec.extractLsb'_and.symm
    _ = CmdWord.op r.pattern := by rw [(selects_iff r w).mp h]

/-- The rows differ in their opcodes, so no word selects two (R39). -/
theorem row_eq_of_selects {r r' : OpcodeRow} {w : CmdWord} (hr : r ∈ opcodeTable) (hr' : r' ∈ opcodeTable)
    (h : r.selects w = true) (h' : r'.selects w = true) : r = r' := by
  have hdiffer : ∀ r ∈ opcodeTable, ∀ r' ∈ opcodeTable, CmdWord.op r.pattern = CmdWord.op r'.pattern → r = r' := by
    decide
  exact hdiffer r hr r' hr' ((op_eq_of_selects hr h).symm.trans (op_eq_of_selects hr' h'))

/-- A row with the mask 0xffff selects its own pattern alone. -/
theorem eq_pattern_of_selects {r : OpcodeRow} {w : CmdWord} (hmask : r.mask = BitVec.allOnes 16)
    (h : r.selects w = true) : w = r.pattern := by
  rw [← (selects_iff r w).mp h, hmask, BitVec.and_allOnes]

/-- Only words of commands select a row (R39). -/
theorem exists_encode_of_selects {r : OpcodeRow} {w : CmdWord} (hr : r ∈ opcodeTable) (h : r.selects w = true) :
    ∃ i, encode i = w := by
  have hop := op_eq_of_selects hr h
  obtain ⟨op, imm, rfl⟩ := exists_fields w
  rw [op_append] at hop
  simp only [opcodeTable, List.mem_cons, List.not_mem_nil, or_false] at hr
  obtain rfl | rfl | rfl | rfl | rfl := hr
  · exact ⟨.nop, (eq_pattern_of_selects rfl h).symm⟩
  · exact ⟨.kclr, (eq_pattern_of_selects rfl h).symm⟩
  · cases hop
    exact ⟨.kpush imm, encode_kpush imm⟩
  · exact ⟨.seed, (eq_pattern_of_selects rfl h).symm⟩
  · cases hop
    exact ⟨.xform imm, encode_xform imm⟩

theorem legalWord_iff_selects {w : CmdWord} : legalWord w = true ↔ ∃ r ∈ opcodeTable, r.selects w = true :=
  List.any_eq_true

/-- The legal words are the words of the commands (R39). -/
theorem legalWord_iff_encode {w : CmdWord} : legalWord w = true ↔ ∃ i, encode i = w := by
  rw [legalWord_iff_selects]
  constructor
  · rintro ⟨r, hr, h⟩
    exact exists_encode_of_selects hr h
  · rintro ⟨i, rfl⟩
    exact ⟨rowOf i, rowOf_mem i, rowOf_selects i⟩

/-! ### Counting the legal words -/

def allBytes : List Byte := (List.finRange 256).map BitVec.ofFin

def allInstrs : List Instr := [.nop, .kclr, .seed] ++ allBytes.map .kpush ++ allBytes.map .xform

theorem mem_allBytes (v : Byte) : v ∈ allBytes := List.mem_map.mpr ⟨v.toFin, List.mem_finRange _, rfl⟩

theorem mem_allInstrs (i : Instr) : i ∈ allInstrs := by
  cases i <;> simp [allInstrs, mem_allBytes]

theorem allInstrs_length : allInstrs.length = 515 := by simp [allInstrs, allBytes]

theorem allBytes_nodup : allBytes.Nodup :=
  (List.nodup_finRange 256).map fun _ _ h => congrArg BitVec.toFin h

theorem allInstrs_nodup : allInstrs.Nodup := by
  have hkpush : (allBytes.map Instr.kpush).Nodup := allBytes_nodup.map fun _ _ h => Instr.kpush.inj h
  have hxform : (allBytes.map Instr.xform).Nodup := allBytes_nodup.map fun _ _ h => Instr.xform.inj h
  simp [allInstrs, List.nodup_append, hkpush, hxform]

theorem encode_injective : Function.Injective encode := fun i j h => by
  have hdecode := congrArg decode h
  simpa using hdecode

theorem mem_map_encode_allInstrs {w : CmdWord} : w ∈ allInstrs.map encode ↔ ∃ i, encode i = w := by
  simp [mem_allInstrs]

/-- Settles O3: the legal words are the words of all commands. -/
theorem legalWordsAreTheOpcodeMap : Obligations.LegalWordsAreTheOpcodeMap := by
  refine ⟨rfl, selects_iff, ⟨allInstrs.map encode, ?_, ?_, ?_, ?_, ?_⟩, ?_, ?_⟩
  · exact allInstrs_nodup.map encode_injective
  · rw [List.length_map, allInstrs_length]
  · intro w
    rw [mem_map_encode_allInstrs, ← legalWord_iff_encode, legalWord_iff_selects]
  · intro w
    rw [mem_map_encode_allInstrs, legalWord_iff_encode]
  · intro w
    simp only [mem_map_encode_allInstrs, decode_eq_ok_iff]
  · exact fun w r hr r' hr' => row_eq_of_selects hr hr'
  · intro w i hdecode
    obtain rfl := decode_eq_ok_iff.mp hdecode
    have hrow := (selects_iff _ _).mp (rowOf_selects i)
    refine ⟨?_, ?_, ?_, ?_, ?_⟩
    · rintro rfl; rfl
    · rintro rfl; rfl
    · rintro v rfl; exact hrow
    · rintro rfl; rfl
    · rintro v rfl; exact hrow

end Sys2Proof.Machine

/-! SUPPORT. Response words and failing commands (30_encoding.md R37, R38, 60_exceptions.md R66, R69), and what a step does
with the word on the port (30_encoding.md R33, R34, R41). -/

namespace Sys2Proof.Machine

/-! ### Response words -/

/-- `rsp_word = STATUS * 0x100 + DATA` (R37). -/
theorem responseWord_toNat (st : Status) (d : Byte) :
    (responseWord st d).toNat = st.code.toNat * 0x100 + d.toNat := by
  rw [responseWord, BitVec.toNat_append, ← Nat.shiftLeft_add_eq_or_of_lt d.isLt, Nat.shiftLeft_eq]

/-- Every 2-bit field is a status code, and `statusOf` finds it (R66). -/
theorem code_statusOf (r : RspWord) : (statusOf r).code = r.extractLsb' 8 2 := by
  unfold statusOf
  generalize r.extractLsb' 8 2 = field
  revert field
  decide

theorem responseWord_statusOf_dataOf (r : RspWord) : responseWord (statusOf r) (dataOf r) = r := by
  rw [responseWord, code_statusOf]
  exact (BitVec.extractLsb'_append_extractLsb'_eq_extractLsb' rfl).trans BitVec.extractLsb'_eq_self

/-- Settles O10, by the codes of R66. -/
theorem responseWordHoldsStatusAndData : Obligations.ResponseWordHoldsStatusAndData := by
  refine ⟨fun d => ?_, fun st d => ⟨statusOf_responseWord st d, dataOf_responseWord st d⟩,
    responseWord_statusOf_dataOf⟩
  simp [responseWord_toNat, Status.code]

/-! ### Failing commands -/

/-- Settles O42, command by command. -/
theorem failingCommandWritesNoState : Obligations.FailingCommandWritesNoState := by
  intro i s
  cases i with
  | nop => exact ⟨_, _, exec_nop s, rfl, by simp⟩
  | kclr => exact ⟨_, _, exec_kclr s, rfl, by simp⟩
  | kpush v => exact ⟨_, _, exec_kpush v s, rfl, by simp⟩
  | seed =>
    by_cases hlen : s.keylen = 0
    · exact ⟨_, _, exec_seed_of_empty hlen, rfl, fun _ => ⟨by simp, rfl⟩, by simp [hlen]⟩
    · exact ⟨_, _, exec_seed_of_loaded hlen, rfl, by simp [hlen]⟩
  | xform v =>
    cases hseeded : s.seeded with
    | false => exact ⟨_, _, exec_xform_of_not_seeded v hseeded, rfl, fun _ => ⟨by simp, rfl⟩, by simp⟩
    | true => exact ⟨_, _, exec_xform_of_seeded v hseeded, rfl, by simp⟩

/-! ### Words that decode and words that do not -/

theorem runWord_of_decode {w : CmdWord} {i : Instr} (h : decode w = .ok i) (s : State) : runWord w s = exec i s := by
  simp [runWord, h]

theorem runWord_of_illegal {w : CmdWord} {e : IllegalWord} (h : decode w = .error e) (s : State) :
    runWord w s = .next (s.fail .illegal) := by
  simp [runWord, h]

theorem bareCommand_eq_error_iff {w : CmdWord} {i : Instr} :
    (∃ e, bareCommand w i = .error e) ↔ CmdWord.imm w ≠ 0x00#8 := by
  by_cases h : CmdWord.imm w = 0x00#8
  · simp [bareCommand_of_zero h, h]
  · simp [bareCommand_of_nonzero h, h]

/-- The two kinds of illegal words (R41). -/
theorem decode_fields_eq_error_iff (op imm : Byte) :
    (∃ e, decode (op ++ imm : CmdWord) = .error e) ↔
      (0x05 ≤ op.toNat ∨ ((op = 0x00 ∨ op = 0x01 ∨ op = 0x03) ∧ imm ≠ 0x00)) := by
  obtain rfl | rfl | rfl | rfl | rfl | hop := opcode_cases op
  · simp [decode_nop_fields, bareCommand_eq_error_iff]
  · simp [decode_kclr_fields, bareCommand_eq_error_iff]
  · simp [decode_kpush_fields]
  · simp [decode_seed_fields, bareCommand_eq_error_iff]
  · simp [decode_xform_fields]
  · simp [decode_reserved_fields hop, hop]

/-! ### The state on which an accepted word runs -/

theorem State.accepting_of_idle {s : State} (h : s.outstanding = none) (rest : List CmdWord) :
    s.accepting rest = { s with offers := rest, draw := s.draw + 1 } := by
  simp [State.accepting, State.answered, h]

theorem State.accepting_of_pending {s : State} {o : Outstanding} (h : s.outstanding = some o) (rest : List CmdWord) :
    s.accepting rest = { s with
      outstanding := none, received := s.received ++ [o.word], offers := rest, draw := s.draw + 1 } := by
  simp [State.accepting, State.answered, h]

/-- Settles O5: an illegal word runs as `fail`, on the state with the word taken. -/
theorem illegalWordAnswersIllegal : Obligations.IllegalWordAnswersIllegal := by
  refine fun op imm => ⟨decode_fields_eq_error_iff op imm, fun s rest hrst hoffers hillegal => ?_⟩
  obtain ⟨e, he⟩ := (decode_fields_eq_error_iff op imm).mpr hillegal
  constructor
  · intro ho
    rw [step_runs_offer hrst (.inl ho) hoffers, runWord_of_illegal he, State.accepting_of_idle ho]
    rfl
  · intro o ho hready
    rw [step_runs_offer hrst (.inr hready) hoffers, runWord_of_illegal he, State.accepting_of_pending ho]
    rfl

theorem State.withFetchWord_toNat (s : State) (w : CmdWord) : s.withFetchWord 16 w.toNat = s.offerFirst w := by
  have hword : tableWord 16 w.toNat = some w := by
    rw [tableWord, if_pos le_rfl, Nat.mod_eq_of_lt w.isLt, BitVec.ofNat_toNat, BitVec.setWidth_eq]
  simp [State.withFetchWord, hword]

/-- Settles O53: the step runs the word on the port, and the word is its command's meaning. -/
theorem stepRunsTheDecodedCommand : Obligations.StepRunsTheDecodedCommand := by
  refine fun s w i hdecode => ⟨fun rest hrst ho hoffers => ?_, fun rest o hrst ho hready hoffers => ?_, ?_⟩
  · rw [step_runs_offer hrst (.inl ho) hoffers, runWord_of_decode hdecode, State.accepting_of_idle ho]
  · rw [step_runs_offer hrst (.inr hready) hoffers, runWord_of_decode hdecode, State.accepting_of_pending ho]
  · rw [s.withFetchWord_toNat, step_runs_offer (s.offerFirst_rst w) (.inl (s.offerFirst_outstanding w))
      (s.offerFirst_offers w), runWord_of_decode hdecode, State.accepting_of_idle (s.offerFirst_outstanding w)]
    rfl

/-- Settles O49: the word runs with one response, and R87 says when that one is produced. -/
theorem everyCommandYieldsOneResponseInOrder : Obligations.EveryCommandYieldsOneResponseInOrder := by
  intro s w rest hrst hfree hoffers
  obtain ⟨t, r, hrun, ho, hrst', hoffers', hready', hreceived, -⟩ := runWord_answers w (s.accepting rest)
  rw [State.accepting_rst, hrst] at hrst'
  rw [State.accepting_offers] at hoffers'
  rw [State.accepting_rspReady] at hready'
  rw [State.accepting_received] at hreceived
  have hanswered : t.answered = s.answered ++ [r] := by simp [State.answered, ho, hreceived]
  have hproduced : t.produced = (if s.rspReady then s.answered ++ [r] else s.received) ∧
      t.runEnded = (rest.isEmpty && s.rspReady) := by
    cases hready : s.rspReady with
    | true =>
      obtain ⟨-, hp, he⟩ := t.observation_of_accepted _ hrst' (hready'.trans hready) ho rfl
      simp [hp, he, hreceived, hoffers']
    | false =>
      obtain ⟨hp, he⟩ := t.observation_of_withheld _ (hready'.trans hready) ho
      have hidle : s.outstanding = none := hfree.resolve_right (by simp [hready])
      obtain ⟨ha, -, -⟩ := s.observation_of_idle hidle
      simp [hp, he, hreceived, ha]
  obtain ⟨hproduced, hended⟩ := hproduced
  exact ⟨t, r, (step_runs_offer hrst hfree hoffers).trans hrun, hanswered, hreceived, ho, hoffers', hproduced, hended,
    hrst', hready'⟩

end Sys2Proof.Machine

/-! SUPPORT. The ports edge by edge (30_encoding.md R33): when a command and a response transfer, how long a response waits,
and that every step is some number of edges (70_reset_and_hazards.md R86, R87). -/

namespace Sys2Proof.Machine

/-! ### The levels of the ports -/

theorem State.cmdReady_eq_true_iff (s : State) : s.cmdReady = true ↔ s.rst = false ∧ s.outstanding = none := by
  simp [State.cmdReady]

theorem State.cmdReady_eq_false_of_outstanding {s : State} {o : Outstanding} (h : s.outstanding = some o) :
    s.cmdReady = false := by
  simp [State.cmdReady, h]

theorem State.rspWord_of_outstanding {s : State} {o : Outstanding} (hr : s.rst = false) (ho : s.outstanding = some o) :
    s.rspWord = if o.wait = 0 then some o.word else none := by
  simp [State.rspWord, hr, ho]

/-- `rsp_valid` is 1 once the outstanding response waits no more (R33 item 4). -/
theorem State.rspWord_eq_some_iff (s : State) (r : RspWord) :
    s.rspWord = some r ↔ s.rst = false ∧ s.outstanding = some { word := r, wait := 0 } := by
  cases hr : s.rst with
  | true => simp [State.rspWord, hr]
  | false =>
    cases ho : s.outstanding with
    | none => simp [State.rspWord, ho]
    | some o =>
      obtain ⟨word, wait⟩ := o
      rw [State.rspWord_of_outstanding hr ho]
      by_cases hw : wait = 0 <;> simp [hw]

/-! ### One edge, by the levels of the ports -/

theorem clockEdge_of_rst {s : State} (hr : s.rst = true) : clockEdge s = .next s.applyReset := by
  simp [clockEdge, hr]

theorem clockEdge_of_idle {s : State} (hr : s.rst = false) (ho : s.outstanding = none) :
    clockEdge s = acceptAtEdge s := by
  simp [clockEdge, hr, ho]

theorem clockEdge_of_waiting {s : State} {o : Outstanding} (hr : s.rst = false) (ho : s.outstanding = some o)
    (hw : o.wait ≠ 0) : clockEdge s = .next (s.setWait (o.wait - 1)) := by
  simp [clockEdge, hr, ho, hw]

theorem clockEdge_of_accepted {s : State} {o : Outstanding} (hr : s.rst = false) (ho : s.outstanding = some o)
    (hw : o.wait = 0) (hy : s.rspReady = true) : clockEdge s = .next (s.transfer o) := by
  simp [clockEdge, hr, ho, hw, hy]

theorem clockEdge_of_withheld {s : State} {o : Outstanding} (hr : s.rst = false) (ho : s.outstanding = some o)
    (hw : o.wait = 0) (hy : s.rspReady = false) : clockEdge s = .next s := by
  simp [clockEdge, hr, ho, hw, hy]

/-- The edge that accepts a word (R33 item 1): the word has run, and its response waits for its cycle. -/
theorem clockEdge_accepts {s : State} {w : CmdWord} {rest : List CmdWord} (hr : s.rst = false)
    (ho : s.outstanding = none) (hoffers : s.offers = w :: rest) :
    ∃ t r, runWord w (s.takeOffer rest) = .next t ∧ t.outstanding = some { word := r, wait := 0 } ∧
      t.rst = false ∧ t.offers = rest ∧ clockEdge s = .next (t.setWait (responseWait w s.draw)) := by
  obtain ⟨t, r, hrun, hout, hrst, hrest, -⟩ := runWord_answers w (s.takeOffer rest)
  exact ⟨t, r, hrun, hout, hrst.trans hr, hrest,
    (clockEdge_of_idle hr ho).trans (acceptAtEdge_cons hoffers hrun)⟩

theorem acceptAtEdge_answers (s : State) : ∃ t, acceptAtEdge s = .next t ∧ t.received = s.received := by
  cases hoffers : s.offers with
  | nil => exact ⟨s, acceptAtEdge_nil hoffers, rfl⟩
  | cons w rest =>
    obtain ⟨t, r, hrun, -, -, -, -, hreceived, -⟩ := runWord_answers w (s.takeOffer rest)
    exact ⟨_, acceptAtEdge_cons hoffers hrun, hreceived⟩

/-- Settles O46: the edge by whether the block is ready and a word is offered. -/
theorem commandTransfersOnValidAndReady : Obligations.CommandTransfersOnValidAndReady := by
  refine fun s => ⟨s.cmdReady_eq_true_iff, ?_⟩
  obtain ⟨hr, he⟩ | ⟨hr, ho, he⟩ | ⟨o, -, ho, -, he⟩ | ⟨o, -, ho, -, -, he⟩ | ⟨o, -, ho, -, -, he⟩ := clockEdge_cases s
  · exact ⟨_, he, by simp [State.cmdReady, hr], fun _ => rfl⟩
  · cases hoffers : s.offers with
    | nil => exact ⟨s, he.trans (acceptAtEdge_nil hoffers), by simp [State.cmdValid, hoffers], fun _ => hoffers⟩
    | cons w rest =>
      obtain ⟨t, r, -, hout, -, hrest, hedge⟩ := clockEdge_accepts hr ho hoffers
      refine ⟨_, hedge, fun _ => ⟨w, by simp [State.cmdWord, hoffers], by simp [hrest], by simp [hout]⟩, ?_⟩
      simp [State.cmdValid, hoffers, State.cmdReady, hr, ho]
  · exact ⟨_, he, by simp [State.cmdReady, ho], fun _ => rfl⟩
  · exact ⟨_, he, by simp [State.cmdReady, ho], fun _ => rfl⟩
  · exact ⟨_, he, by simp [State.cmdReady, ho], fun _ => rfl⟩

/-! ### Several edges -/

theorem clockEdges_succ {s t : State} (n : Nat) (h : clockEdge s = .next t) : clockEdges (n + 1) s = clockEdges n t := by
  simp [clockEdges, h]

theorem clockEdges_one {s t : State} (h : clockEdge s = .next t) : clockEdges 1 s = .next t := clockEdges_succ 0 h

theorem clockEdges_of_fixed {s : State} (h : clockEdge s = .next s) (n : Nat) : clockEdges n s = .next s := by
  induction n with
  | zero => rfl
  | succ n ih => rw [clockEdges_succ n h, ih]

theorem clockEdges_add {m : Nat} (n : Nat) {s t : State} (h : clockEdges m s = .next t) :
    clockEdges (m + n) s = clockEdges n t := by
  induction m generalizing s with
  | zero =>
    cases h
    rw [Nat.zero_add]
  | succ m ih =>
    rw [Nat.succ_add]
    cases he : clockEdge s with
    | next u =>
      rw [clockEdges_succ _ he] at h ⊢
      exact ih h
    | fault f => simp [clockEdges, he] at h
    | refused r => simp [clockEdges, he] at h

theorem State.setWait_setWait (s : State) (m n : Nat) : (s.setWait m).setWait n = s.setWait n := by
  cases ho : s.outstanding <;> simp [State.setWait, ho]

theorem State.setWait_self {s : State} {o : Outstanding} (h : s.outstanding = some o) : s.setWait o.wait = s := by
  have hsame : (s.outstanding.map fun o' => { o' with wait := o.wait }) = s.outstanding := by rw [h]; rfl
  rw [State.setWait, hsame]

/-- While a response waits, each edge takes one cycle off its wait and changes nothing else (R33 item 4). -/
theorem clockEdges_of_waiting {s : State} {o : Outstanding} {n : Nat} (hr : s.rst = false)
    (ho : s.outstanding = some o) (hn : n ≤ o.wait) : clockEdges n s = .next (s.setWait (o.wait - n)) := by
  induction n generalizing s o with
  | zero => rw [Nat.sub_zero, State.setWait_self ho]; rfl
  | succ n ih =>
    have ho' : (s.setWait (o.wait - 1)).outstanding = some { o with wait := o.wait - 1 } := by simp [ho]
    rw [clockEdges_succ n (clockEdge_of_waiting hr ho (by omega)),
      ih (s := s.setWait (o.wait - 1)) hr ho' (Nat.le_sub_one_of_lt hn), State.setWait_setWait, Nat.sub_sub,
      Nat.add_comm 1 n]

/-- Settles O47: the valid response is the outstanding one, and only an accepting edge transfers it. -/
theorem responseHoldsUntilItTransfers : Obligations.ResponseHoldsUntilItTransfers := by
  refine fun s => ⟨fun r hrsp hready => ?_, fun r hrsp hready n => ?_, fun hrsp => ?_⟩
  · obtain ⟨hr, ho⟩ := (s.rspWord_eq_some_iff r).mp hrsp
    exact clockEdge_of_accepted hr ho rfl hready
  · obtain ⟨hr, ho⟩ := (s.rspWord_eq_some_iff r).mp hrsp
    exact clockEdges_of_fixed (clockEdge_of_withheld hr ho rfl hready) n
  · obtain ⟨-, he⟩ | ⟨-, -, he⟩ | ⟨o, -, -, -, he⟩ | ⟨o, hr, ho, hw, -, -⟩ | ⟨o, -, -, -, -, he⟩ := clockEdge_cases s
    · exact ⟨_, he, rfl⟩
    · rw [he]
      exact acceptAtEdge_answers s
    · exact ⟨_, he, rfl⟩
    · simp [State.rspValid, State.rspWord_of_outstanding hr ho, hw] at hrsp
    · exact ⟨_, he, rfl⟩

theorem responseWait_lt_latency (w : CmdWord) (count : Nat) :
    responseWait w count < Config.latency (CmdWord.op w) :=
  Nat.mod_lt _ (one_le_latency _)

/-- After the accepting edge and `n` more, `n` cycles of the response's wait are over. -/
theorem clockEdges_accept_then_wait {s : State} {w : CmdWord} {rest : List CmdWord} (hr : s.rst = false)
    (ho : s.outstanding = none) (hoffers : s.offers = w :: rest) :
    ∃ t r, runWord w (s.takeOffer rest) = .next t ∧ t.outstanding = some { word := r, wait := 0 } ∧ t.rst = false ∧
      ∀ n ≤ responseWait w s.draw,
        clockEdges (n + 1) s = .next (t.setWait (responseWait w s.draw - n)) := by
  obtain ⟨t, r, hrun, hout, hrst, -, hedge⟩ := clockEdge_accepts hr ho hoffers
  refine ⟨t, r, hrun, hout, hrst, fun n hn => ?_⟩
  have hwait : (t.setWait (responseWait w s.draw)).outstanding =
      some { word := r, wait := responseWait w s.draw } := by simp [hout]
  rw [clockEdges_succ n hedge, clockEdges_of_waiting (s := t.setWait _) hrst hwait hn, State.setWait_setWait]

/-- Settles O48: `rsp_valid` rises when the accepting edge and the response's wait are over. -/
theorem responseComesWithinTheLatency : Obligations.ResponseComesWithinTheLatency := by
  intro s w rest hready hoffers
  obtain ⟨hr, ho⟩ := s.cmdReady_eq_true_iff.mp hready
  obtain ⟨t, r, -, hout, hrst, hedges⟩ := clockEdges_accept_then_wait hr ho hoffers
  have hwait (k : Nat) : (t.setWait k).outstanding = some { word := r, wait := k } := by simp [hout]
  have hvalid (k : Nat) : (t.setWait k).rspValid = decide (k = 0) := by
    rw [State.rspValid, State.rspWord_of_outstanding (s := t.setWait k) hrst (hwait k)]
    by_cases hk : k = 0 <;> simp [hk]
  refine ⟨responseWait w s.draw + 1, by omega, responseWait_lt_latency w s.draw,
    ⟨_, hedges _ le_rfl, by simp [hvalid]⟩, fun d hpos hlt => ?_⟩
  obtain ⟨n, rfl⟩ : ∃ n, d = n + 1 := ⟨d - 1, by omega⟩
  refine ⟨_, hedges n (by omega), ?_, State.cmdReady_eq_false_of_outstanding (hwait _)⟩
  rw [hvalid, decide_eq_false_iff_not]
  omega

/-! ### Steps as edges -/

/-- Accepting the offered word up to its response takes a positive number of edges (R33, R86). -/
theorem acceptOffer_refines {s : State} (hr : s.rst = false) (ho : s.outstanding = none) :
    ∃ t n, 0 < n ∧ acceptOffer s = .next t ∧ clockEdges n s = .next t := by
  cases hoffers : s.offers with
  | nil =>
    exact ⟨s, 1, Nat.one_pos, acceptOffer_nil hoffers,
      clockEdges_one ((clockEdge_of_idle hr ho).trans (acceptAtEdge_nil hoffers))⟩
  | cons w rest =>
    obtain ⟨t, r, hrun, hout, -, hedges⟩ := clockEdges_accept_then_wait hr ho hoffers
    refine ⟨t, responseWait w s.draw + 1, Nat.succ_pos _, (acceptOffer_cons hoffers).trans hrun, ?_⟩
    rw [hedges _ le_rfl, Nat.sub_self]
    exact congrArg _ (State.setWait_self hout)

/-- A pending response waits to its end. -/
theorem clockEdges_of_pending {s : State} {o : Outstanding} (hr : s.rst = false) (ho : s.outstanding = some o) :
    clockEdges o.wait s = .next (s.setWait 0) := by
  rw [clockEdges_of_waiting hr ho le_rfl, Nat.sub_self]

/-- Settles O52: reset and an idle port take their edges at once, a pending response first waits to its end. -/
theorem stepRefinesToClockEdges : Obligations.StepRefinesToClockEdges := by
  intro s
  cases hr : s.rst with
  | true => exact ⟨_, 1, Nat.one_pos, step_of_rst hr, clockEdges_one (clockEdge_of_rst hr)⟩
  | false =>
    cases ho : s.outstanding with
    | none =>
      rw [step_of_idle hr ho]
      exact acceptOffer_refines hr ho
    | some o =>
      have hwaited : (s.setWait 0).outstanding = some { o with wait := 0 } := by simp [ho]
      cases hready : s.rspReady with
      | true =>
        obtain ⟨t, n, -, haccept, hedges⟩ := acceptOffer_refines (s := s.transfer o) hr rfl
        refine ⟨t, o.wait + (n + 1), by omega, (step_of_accepted hr ho hready).trans haccept, ?_⟩
        rw [clockEdges_add (n + 1) (clockEdges_of_pending hr ho),
          clockEdges_succ n (clockEdge_of_accepted (s := s.setWait 0) hr hwaited rfl hready)]
        exact hedges
      | false =>
        refine ⟨_, o.wait + 1, Nat.succ_pos _, step_of_withheld hr ho hready, ?_⟩
        rw [clockEdges_add 1 (clockEdges_of_pending hr ho)]
        exact clockEdges_one (clockEdge_of_withheld (s := s.setWait 0) hr hwaited rfl hready)

end Sys2Proof.Machine

/-! SUPPORT. The assembler on the text of a command and on the pseudo-commands (30_encoding.md R44, R45). -/

namespace Sys2Proof.Machine

/-! ### Cutting a line into tokens -/

/-- A character that only continues the token it stands in. -/
def plainChar (c : Char) : Bool := c ≠ ';' ∧ c ≠ quoteMark ∧ c ≠ ',' ∧ ¬ c.isWhitespace

theorem lexLine_nil (run : List Char) : lexLine [] run = .ok (flushToken run []) := by rw [lexLine]

theorem lexLine_space (rest run : List Char) :
    lexLine (' ' :: rest) run = (lexLine rest []).map (flushToken run) := by
  have hquote : ' ' ≠ quoteMark := by decide
  have hspace : ' '.isWhitespace = true := by decide
  rw [lexLine.eq_def]
  simp [hquote, hspace]

theorem lexLine_plain_cons {c : Char} (hc : plainChar c = true) (rest run : List Char) :
    lexLine (c :: rest) run = lexLine rest (run ++ [c]) := by
  obtain ⟨hcomment, hquote, hcomma, hspace⟩ := of_decide_eq_true hc
  rw [lexLine.eq_def]
  simp [hcomment, hquote, hcomma, hspace]

theorem lexLine_plain_append {cs : List Char} (hcs : cs.all plainChar = true) (rest run : List Char) :
    lexLine (cs ++ rest) run = lexLine rest (run ++ cs) := by
  induction cs generalizing run with
  | nil => simp
  | cons c cs ih =>
    rw [List.all_cons, Bool.and_eq_true] at hcs
    obtain ⟨hc, hcs'⟩ := hcs
    rw [List.cons_append, lexLine_plain_cons hc, ih hcs', List.append_assoc, List.singleton_append]

theorem flushToken_of_ne_nil {run : List Char} (h : run ≠ []) (rest : List Token) :
    flushToken run rest = .text run :: rest := by
  simp [flushToken, h]

/-- A line of one plain word is one token. -/
theorem lexLine_word {cs : List Char} (hcs : cs.all plainChar = true) (hne : cs ≠ []) :
    lexLine cs [] = .ok [.text cs] := by
  have happend := lexLine_plain_append hcs [] []
  rw [List.append_nil, List.nil_append] at happend
  rw [happend, lexLine_nil, flushToken_of_ne_nil hne]

/-- A line of two plain words with a space between them is two tokens. -/
theorem lexLine_two_words {cs ds : List Char} (hcs : cs.all plainChar = true) (hcne : cs ≠ [])
    (hds : ds.all plainChar = true) (hdne : ds ≠ []) : lexLine (cs ++ ' ' :: ds) [] = .ok [.text cs, .text ds] := by
  rw [lexLine_plain_append hcs, lexLine_space, lexLine_word hds hdne, List.nil_append]
  exact congrArg Except.ok (flushToken_of_ne_nil hcne _)

/-! ### Hexadecimal operands -/

theorem hexChar_plain (n : BitVec 4) : plainChar (hexChar n) = true := by
  revert n
  decide

theorem digitValue_hexChar (n : BitVec 4) : digitValue (hexChar n) = n.toNat := by
  revert n
  decide

theorem hexLiteral_plain (v : Byte) : (hexLiteral v).all plainChar = true := by
  have hzerox : plainChar '0' = true ∧ plainChar 'x' = true := by decide
  simp only [hexLiteral, List.all_cons, hzerox, hexChar_plain, List.all_nil, Bool.and_self]

theorem nibbles_toNat (v : Byte) : (v.extractLsb' 4 4).toNat * 16 + (v.extractLsb' 0 4).toNat = v.toNat := by
  simp only [BitVec.extractLsb'_toNat, Nat.shiftRight_eq_div_pow]
  omega

theorem numberValue_two_hexChars (a b : BitVec 4) :
    numberValue 16 [hexChar a, hexChar b] = some (a.toNat * 16 + b.toNat) := by
  simp [numberValue, digitValue_hexChar, a.isLt, b.isLt]

/-- A hexadecimal literal reads back as its byte (R44). -/
theorem operandValue_hexLiteral (v : Byte) : operandValue (.text (hexLiteral v)) = some v.toNat := by
  have hvalue : hexValue (hexLiteral v) = some v.toNat := by
    rw [← nibbles_toNat, ← numberValue_two_hexChars]
    rfl
  simp [operandValue, hvalue]

/-! ### Lines -/

theorem assembleLine_of_tokens {cs : List Char} {ts : List Token} {l : AsmLine} (hlex : lexLine cs [] = .ok ts)
    (hparse : parseTokens ts = .ok l) (hwf : l.wellFormed = true) : assembleLine cs = .ok l.words := by
  simp [assembleLine, hlex, hparse, hwf]

/-- The line of a mnemonic alone (R44). -/
theorem assembleLine_bare {m : List Char} {l : AsmLine} (hm : m.all plainChar = true) (hne : m ≠ [])
    (hparse : parseTokens [.text m] = .ok l) (hwf : l.wellFormed = true) : assembleLine m = .ok l.words :=
  assembleLine_of_tokens (lexLine_word hm hne) hparse hwf

/-- The line of a mnemonic and one hexadecimal byte (R44). -/
theorem assembleLine_unary {m : List Char} {mk : Nat → AsmLine} (v : Byte) (hm : m.all plainChar = true) (hne : m ≠ [])
    (hparse : ∀ operands, parseTokens (.text m :: operands) = unaryLine mk operands)
    (hwf : (mk v.toNat).wellFormed = true) : assembleLine (m ++ ' ' :: hexLiteral v) = .ok (mk v.toNat).words := by
  refine assembleLine_of_tokens (lexLine_two_words hm hne (hexLiteral_plain v) (List.cons_ne_nil _ _)) ?_ hwf
  simp [hparse, unaryLine, operandValue_hexLiteral]

theorem decide_toNat_lt (v : Byte) : decide (v.toNat < 256) = true := decide_eq_true v.isLt

/-- Settles O6, command by command. -/
theorem commandTextAssemblesToItsWord : Obligations.CommandTextAssemblesToItsWord := by
  intro i
  cases i with
  | nop => exact assembleLine_bare (m := ['N', 'O', 'P']) (by decide) (by decide) rfl rfl
  | kclr => exact assembleLine_bare (m := ['K', 'C', 'L', 'R']) (by decide) (by decide) rfl rfl
  | kpush v =>
    have hline := assembleLine_unary (m := ['K', 'P', 'U', 'S', 'H']) (mk := .kpush) v (by decide) (by decide)
      (fun _ => rfl) (decide_toNat_lt v)
    simpa [instrText, AsmLine.words, AsmLine.commands] using hline
  | seed => exact assembleLine_bare (m := ['S', 'E', 'E', 'D']) (by decide) (by decide) rfl rfl
  | xform v =>
    have hline := assembleLine_unary (m := ['X', 'F', 'O', 'R', 'M']) (mk := .xform) v (by decide) (by decide)
      (fun _ => rfl) (decide_toNat_lt v)
    simpa [instrText, AsmLine.words, AsmLine.commands] using hline

/-! ### Pseudo-commands -/

theorem map_ofNat_map_toNat (bytes : List Byte) : (bytes.map BitVec.toNat).map (BitVec.ofNat 8) = bytes := by
  simp [Function.comp_def]

theorem all_map_toNat_lt (bytes : List Byte) : (bytes.map BitVec.toNat).all (· < 256) = true := by
  rw [List.all_map, List.all_eq_true]
  exact fun b _ => decide_toNat_lt b

/-- `LOADKEY` is KCLR and one KPUSH for each byte (R45). -/
theorem words_loadkey (key : List Byte) :
    (AsmLine.loadkey (key.map BitVec.toNat)).words = encode .kclr :: key.map fun k => encode (.kpush k) := by
  simp only [AsmLine.words, AsmLine.commands]
  rw [map_ofNat_map_toNat, loadKey, List.map_cons, List.map_map]
  rfl

/-- `TRANSFORM` is SEED and one XFORM for each byte (R45). -/
theorem words_transform (msg : List Byte) :
    (AsmLine.transform (msg.map BitVec.toNat)).words = encode .seed :: msg.map fun m => encode (.xform m) := by
  simp only [AsmLine.words, AsmLine.commands]
  rw [map_ofNat_map_toNat, transformMessage, List.map_cons, List.map_map]
  rfl

/-- Settles O7, by the commands each line stands for. -/
theorem pseudoCommandsExpand : Obligations.PseudoCommandsExpand :=
  ⟨rfl, fun key => ⟨all_map_toNat_lt key, words_loadkey key⟩, fun msg => ⟨all_map_toNat_lt msg, words_transform msg⟩⟩

end Sys2Proof.Machine

/-! SUPPORT. The key commands (40_key_seeder.md R50, R51): the legal word of a command without operand, one command after
another, and the key store when it is full. -/

namespace Sys2Proof.Machine

/-! ### Lists of commands and words without operand -/

/-- A command without operand has no word with `IMM8` other than 0x00 (R40, R41). -/
theorem bareCommand_fields_toOption_eq_none {op imm : Byte} (himm : imm ≠ 0x00#8) (i : Instr) :
    (bareCommand (op ++ imm) i).toOption = none := by
  rw [bareCommand_toOption, imm_append, if_neg himm]

theorem execAll_nil (s : State) : execAll [] s = .next s := rfl

theorem execAll_singleton {i : Instr} {s t : State} (h : exec i s = .next t) : execAll [i] s = .next t :=
  (execAll_cons h).trans (execAll_nil t)

/-- A list of commands continues from the state its first part leaves. -/
theorem execAll_append {is : List Instr} (js : List Instr) {s t : State} (h : execAll is s = .next t) :
    execAll (is ++ js) s = execAll js t := by
  induction is generalizing s with
  | nil =>
    cases h
    rfl
  | cons i is ih =>
    obtain ⟨u, -, hu, -⟩ := exec_answers i s
    rw [execAll_cons hu] at h
    rw [List.cons_append, execAll_cons hu, ih h]

/-! ### KCLR and KPUSH -/

/-- Settles O12: KCLR by its meaning, and what follows it on the store it leaves. -/
theorem kclrClearsTheKeyStore : Obligations.KclrClearsTheKeyStore := by
  refine ⟨rfl, fun imm himm => ?_, fun s => exec_kclr s, fun s => ?_, fun s => ?_⟩
  · rw [decode_kclr_fields, bareCommand_fields_toOption_eq_none himm]
  · rw [execAll_cons (exec_kclr s)]
    exact execAll_singleton (exec_seed_of_empty rfl)
  · rw [execAll_cons (exec_kclr s), execAll_cons (exec_kclr _), execAll_cons (exec_kclr s)]
    rfl

/-- Settles O13: by what one key byte does to the store. -/
theorem kpushAppendsOneKeyByte : Obligations.KpushAppendsOneKeyByte := by
  refine fun v => ⟨rfl, fun s => ⟨_, exec_kpush v s, rfl, rfl, fun hroom => ⟨?_, fun j => ?_⟩, fun hfull => ?_, ?_⟩⟩
  · simp only [State.respond_keylen, State.setSeeded_keylen, State.appendKeyByte_keylen]
    omega
  · exact s.appendKeyByte_keybuf v j.val j.isLt
  · simp [State.appendKeyByte_of_full (s := s) (by omega)]
  · simp

/-! ### A full key store -/

theorem State.setSeeded_of_eq {s : State} {v : Bool} (h : s.seeded = v) : s.setSeeded v = s := by
  rw [State.setSeeded, ← h]

theorem State.respond_of_eq {s : State} {st : Status} {d : Byte}
    (h : s.outstanding = some { word := responseWord st d, wait := 0 }) : s.respond st d = s := by
  rw [State.respond, ← h]

/-- On a full key store, once a KPUSH has cleared SEEDED and answered, a further one leaves the state as it is (R51). -/
theorem exec_kpush_of_full {s : State} (hfull : s.keylen.val = 8) (hseeded : s.seeded = false)
    (ho : s.outstanding = some { word := 0x000, wait := 0 }) (v : Byte) : exec (.kpush v) s = .next s := by
  rw [exec_kpush, State.appendKeyByte_of_full (by omega), State.setSeeded_of_eq hseeded, State.respond_of_eq ho]

theorem execAll_kpushes_of_full (key : List Byte) {s : State} (hfull : s.keylen.val = 8) (hseeded : s.seeded = false)
    (ho : s.outstanding = some { word := 0x000, wait := 0 }) : execAll (key.map .kpush) s = .next s := by
  induction key with
  | nil => rfl
  | cons v key ih => rw [List.map_cons, execAll_cons (exec_kpush_of_full hfull hseeded ho v), ih]

theorem loadKey_append (key extra : List Byte) : loadKey (key ++ extra) = loadKey key ++ extra.map .kpush := by
  simp [loadKey]

/-- Settles O15: the first part of the key fills the store, and the rest finds it full. -/
theorem keyBytesPastTheEighthLeaveNoTrace : Obligations.KeyBytesPastTheEighthLeaveNoTrace := by
  intro key extra s hlong
  obtain ⟨t, hload, hlen, hseeded, -, hframe⟩ := loadedKeyIsStoredInOrder key s
  have hfull : t.keylen.val = 8 := by omega
  have ho : t.outstanding = some { word := 0x000, wait := 0 } := by rw [hframe]
  rw [loadKey_append, execAll_append _ hload, execAll_kpushes_of_full extra hfull hseeded ho, hload]

end Sys2Proof.Machine

/-! SUPPORT. The seed buffer and the seed bytes, position by position (40_key_seeder.md R46, R47). -/

namespace Sys2Proof.Machine

/-! ### The source's seed buffer -/

theorem seedBuf_length (f : SeedFill) (key : List Byte) : (seedBuf f key).length = 12 := by simp [seedBuf]

theorem seedBuf_getElem? (f : SeedFill) (key : List Byte) {j : Nat} (hj : j < 12) :
    (seedBuf f key)[j]? = some (seedBufByte f key j) := by
  simp [seedBuf, hj]

/-- Below the doubled key's length the buffer is the doubled key (R46). -/
theorem some_seedBufByte_of_doubled (f : SeedFill) {key : List Byte} {j : Nat} (hj : j < 2 * key.length) :
    some (seedBufByte f key j) = (key ++ key)[j]? := by
  have hlen : j < (key ++ key).length := by simp; omega
  rw [seedBufByte, List.getElem?_eq_getElem hlen]

theorem seedBufByte_of_past (f : SeedFill) {key : List Byte} {j : Nat} (hj : 2 * key.length ≤ j) :
    seedBufByte f key j = fillByte f key j := by
  have hlen : (key ++ key).length ≤ j := by simp; omega
  rw [seedBufByte, List.getElem?_eq_none hlen]

/-- The cyclic fill repeats the key (R46). -/
theorem some_fillByte_cyclic {key : List Byte} (hkey : key ≠ []) (j : Nat) :
    some (fillByte .cyclic key j) = key[j % key.length]? := by
  have hj : j % key.length < key.length := Nat.mod_lt _ (List.length_pos_iff.mpr hkey)
  simp [fillByte, hj]

/-- Settles O16, range by range. -/
theorem seedBufferIsTheDoubledKey : Obligations.SeedBufferIsTheDoubledKey := by
  refine fun f key hkey => ⟨seedBuf_length f key, fun j hj => ?_⟩
  rw [seedBuf_getElem? f key hj]
  by_cases hfirst : j < key.length
  · rw [if_pos hfirst, some_seedBufByte_of_doubled f (by omega), List.getElem?_append_left hfirst]
  rw [if_neg hfirst]
  by_cases hsecond : j < 2 * key.length
  · rw [if_pos hsecond, some_seedBufByte_of_doubled f hsecond, List.getElem?_append_right (by omega)]
  rw [if_neg hsecond, seedBufByte_of_past f (by omega)]
  cases f with
  | zero => rfl
  | cyclic => exact some_fillByte_cyclic hkey j

/-! ### The hardware's seed bytes -/

section
variable (f : SeedFill) (buf : Vector Byte 8) {n : Nat} {j : Fin 8}

theorem seedByte_of_first (h : j.val < n) : seedByte f buf n j = buf[j.val] := if_pos h

theorem seedByte_of_second (h : n ≤ j.val) (h' : j.val < 2 * n) : seedByte f buf n j = buf[j.val - n] :=
  (if_neg (by omega)).trans (if_pos h')

theorem seedByte_zero_of_past (h : 2 * n ≤ j.val) : seedByte .zero buf n j = 0x00 :=
  (if_neg (by omega)).trans (if_neg (by omega))

theorem seedByte_cyclic_of_past (h : 2 * n ≤ j.val) :
    seedByte .cyclic buf n j = buf[j.val % n]'(Nat.lt_of_le_of_lt (Nat.mod_le _ _) j.isLt) :=
  (if_neg (by omega)).trans (if_neg (by omega))

end

/-- LOADKEY leaves its key in the store (R28 item 4). -/
theorem execAll_loadKey_holdsKey (key : List Byte) (s : State) :
    ∃ t : State, execAll (loadKey key) s = .next t ∧ t.HoldsKey key := by
  obtain ⟨t, hload, hlen, -, hbuf, -⟩ := loadedKeyIsStoredInOrder key s
  exact ⟨t, hload, hlen, fun j hj => hbuf ⟨j, hj⟩⟩

/-- Settles O17: case by case, and the stored key's bytes are the buffer's. -/
theorem storedSeedBytesAreTheSeedBuffers : Obligations.StoredSeedBytesAreTheSeedBuffers := by
  refine ⟨fun buf n j _ _ _ => ⟨fun h f => ?_, fun h h' f => ?_, fun h => ⟨seedByte_zero_of_past buf h, ?_⟩⟩, ?_⟩
  · rw [seedByte_of_first f buf h, Vector.getElem?_eq_getElem]
  · rw [seedByte_of_second f buf h h', Vector.getElem?_eq_getElem]
  · rw [seedByte_cyclic_of_past buf h, Vector.getElem?_eq_getElem]
  · intro f key s hkey
    obtain ⟨t, hload, hk⟩ := execAll_loadKey_holdsKey key s
    refine ⟨t, hload, fun j _ => ?_⟩
    rw [hk.seedByte_eq hkey, seedBuf_getElem? f key (by omega)]

end Sys2Proof.Machine

/-! SUPPORT. SEED (40_key_seeder.md R48, R49, R52): a function of the key store alone, so that it undoes whatever was
seeded or transformed before (70_reset_and_hazards.md R81). -/

namespace Sys2Proof.Machine

/-! ### What SEED overwrites -/

/-- `s` with the elements that SEED writes taken from `u`. -/
def State.withSeeding (s u : State) : State :=
  { s with gen := u.gen, seeded := u.seeded, outstanding := u.outstanding }

/-- With a key loaded SEED reads nothing that it writes (R52). -/
theorem exec_seed_withSeeding {s : State} (hlen : s.keylen ≠ 0) (u : State) :
    exec .seed (s.withSeeding u) = exec .seed s := by
  rw [exec_seed_of_loaded hlen, exec_seed_of_loaded (s := s.withSeeding u) hlen]
  rfl

/-- SEED and XFORM write nothing but the elements that SEED overwrites. -/
theorem exec_seed_eq_withSeeding (s : State) : ∃ u, exec .seed s = .next (s.withSeeding u) := by
  by_cases hlen : s.keylen = 0
  · exact ⟨s.fail .emptyKey, exec_seed_of_empty hlen⟩
  · exact ⟨((s.reseed thisHardware).setSeeded true).respond .ok 0x00, exec_seed_of_loaded hlen⟩

theorem exec_xform_eq_withSeeding (v : Byte) (s : State) : ∃ u, exec (.xform v) s = .next (s.withSeeding u) := by
  cases hseeded : s.seeded with
  | false => exact ⟨s.fail .notSeeded, exec_xform_of_not_seeded v hseeded⟩
  | true =>
    refine ⟨(s.advance thisHardware).respond .ok (outputByte v (s.keystreamByte thisHardware)), ?_⟩
    rw [exec_xform_of_seeded v hseeded]
    rfl

theorem execAll_xforms_eq_withSeeding (msg : List Byte) (s : State) :
    ∃ u, execAll (msg.map .xform) s = .next (s.withSeeding u) := by
  induction msg generalizing s with
  | nil => exact ⟨s, rfl⟩
  | cons v msg ih =>
    obtain ⟨u, hu⟩ := exec_xform_eq_withSeeding v s
    obtain ⟨w, hw⟩ := ih (s.withSeeding u)
    exact ⟨w, (execAll_cons hu).trans hw⟩

/-- Settles O21: the message's commands write only what the second SEED overwrites. -/
theorem seedRestartsTheKeystream : Obligations.SeedRestartsTheKeystream := by
  intro s msg hlen
  obtain ⟨u, hseed⟩ := exec_seed_eq_withSeeding s
  obtain ⟨w, hxforms⟩ := execAll_xforms_eq_withSeeding msg (s.withSeeding u)
  have hmessage : execAll (transformMessage msg) s = .next (s.withSeeding w) := (execAll_cons hseed).trans hxforms
  rw [execAll_append _ hmessage, execAll_singleton hseed]
  exact execAll_singleton ((exec_seed_withSeeding hlen w).trans hseed)

/-! ### The seeding in full -/

/-- A SEED right after a SEED changes nothing, whether they seed or fail (R52). -/
theorem execAll_seed_seed (s : State) : execAll [.seed, .seed] s = execAll [.seed] s := by
  by_cases hlen : s.keylen = 0
  · have hseed := exec_seed_of_empty hlen
    rw [execAll_cons hseed, execAll_singleton hseed]
    exact execAll_singleton (exec_seed_of_empty hlen)
  · exact seedRestartsTheKeystream s [] hlen

/-- Settles O18: SEED by its meaning, the registers by the three steps of R48. -/
theorem seedDerivesAFreshGeneratorState : Obligations.SeedDerivesAFreshGeneratorState := by
  refine ⟨rfl, fun imm himm => ?_, fun s hlen => exec_seed_of_empty hlen, fun s hlen => ?_, execAll_seed_seed⟩
  · rw [decode_seed_fields, bareCommand_fields_toOption_eq_none himm]
  · exact exec_seed_of_loaded hlen

/-- The generator seeded from four bytes: the word they make in every register, or the defaults where that word is zero
(R49). -/
theorem seedGenerator_four (a b c d : Byte) :
    seedGenerator [a, b, c, d] =
      if (a ++ b ++ c ++ d : Word) = 0 then
        { regA := defaultA, regB := defaultB, regC := defaultC, carryB := false, carryC := false }
      else
        { regA := a ++ b ++ c ++ d, regB := a ++ b ++ c ++ d, regC := a ++ b ++ c ++ d,
          carryB := false, carryC := false } := by
  simp only [seedGenerator, seedRegister_four]
  split <;> rfl

/-- The word W of R49 under ZERO fill: the four seed bytes in the order SEED feeds them. -/
def seedWord (buf : Vector Byte 8) (n : Nat) : Word :=
  seedByte .zero buf n 4 ++ seedByte .zero buf n 5 ++ seedByte .zero buf n 6 ++ seedByte .zero buf n 7

/-- SEED puts the word W into every register, or the defaults where W is zero (R49). -/
theorem exec_seed_of_seedWord {s : State} (hlen : s.keylen ≠ 0) {w : Word} (hw : seedWord s.keybuf s.keylen = w) :
    exec .seed s =
      .next { s with
        gen :=
          if w = 0 then { regA := defaultA, regB := defaultB, regC := defaultC, carryB := false, carryC := false }
          else { regA := w, regB := w, regC := w, carryB := false, carryC := false }
        seeded := true
        outstanding := some { word := 0x000, wait := 0 } } := by
  subst hw
  rw [exec_seed_of_loaded hlen, seedWord, ← seedGenerator_four]
  rfl

/-- Settles O19: the table of W, key length by key length. -/
theorem seedHasTheClosedForm : Obligations.SeedHasTheClosedForm := by
  intro s hlen k w
  suffices hw : seedWord s.keybuf s.keylen = w from exec_seed_of_seedWord hlen hw
  have hpos : s.keylen.val ≠ 0 := fun h => hlen (Fin.ext h)
  have hlengths : s.keylen.val = 1 ∨ s.keylen.val = 2 ∨ s.keylen.val = 3 ∨ s.keylen.val = 4 ∨ s.keylen.val = 5 ∨
      s.keylen.val = 6 ∨ s.keylen.val = 7 ∨ s.keylen.val = 8 := by omega
  obtain h | h | h | h | h | h | h | h := hlengths
  all_goals simp [seedWord, seedByte, w, k, h]

end Sys2Proof.Machine

/-! SUPPORT. TRANSFORM on a block without a key (40_key_seeder.md R53, 42_transform.md R64 item 6). -/

namespace Sys2Proof.Machine

/-- The block's own elements (R26) are the same in both states: the generator, the key store and SEEDED. -/
structure State.SameBlock (s t : State) : Prop where
  gen : t.gen = s.gen
  keybuf : t.keybuf = s.keybuf
  keylen : t.keylen = s.keylen
  seeded : t.seeded = s.seeded

theorem State.SameBlock.refl (s : State) : s.SameBlock s := ⟨rfl, rfl, rfl, rfl⟩

theorem State.SameBlock.trans {s t u : State} (h : s.SameBlock t) (h' : t.SameBlock u) : s.SameBlock u :=
  ⟨h'.gen.trans h.gen, h'.keybuf.trans h.keybuf, h'.keylen.trans h.keylen, h'.seeded.trans h.seeded⟩

/-- A command that fails answers its status and leaves the block (R69). -/
theorem answers_of_fail {s : State} {i : Instr} {st : Status} {rest : List CmdWord}
    (hs : s.HostOffers (encode i :: rest)) (hfail : exec i (s.accepting rest) = .next ((s.accepting rest).fail st)) :
    ∃ t : State, Answers s [responseWord st 0x00] t ∧ t.HostOffers rest ∧ s.SameBlock t := by
  obtain ⟨hans, ht⟩ := answers_of_exec hs hfail rfl
  exact ⟨_, hans, ht, rfl, rfl, rfl, rfl⟩

/-- Every XFORM on a block that is not seeded fails (R61). -/
theorem answers_xforms_of_not_seeded (msg : List Byte) {s : State} {rest : List CmdWord}
    (hs : s.HostOffers ((msg.map .xform).map encode ++ rest)) (hseeded : s.seeded = false) :
    ∃ t : State, Answers s (List.replicate msg.length 0x300) t ∧ t.HostOffers rest ∧ s.SameBlock t := by
  induction msg generalizing s with
  | nil => exact ⟨s, .refl s, hs, .refl s⟩
  | cons v msg ih =>
    obtain ⟨u, hans, hu, hsame⟩ := answers_of_fail hs (exec_xform_of_not_seeded v hseeded)
    obtain ⟨t, hans', ht, hsame'⟩ := ih hu (hsame.seeded.trans hseeded)
    exact ⟨t, hans.trans hans', ht, hsame.trans hsame'⟩

/-- Settles O41: SEED fails for want of a key, and the XFORMs for want of a seeding. -/
theorem emptyKeyEnablesNoTransform : Obligations.EmptyKeyEnablesNoTransform := by
  intro s msg rest hlen hseeded hrst hready hidle hoffers
  have hs : s.HostOffers (encode .seed :: ((msg.map .xform).map encode ++ rest)) := ⟨hrst, hready, hoffers⟩
  obtain ⟨u, hseed, hu, hsame⟩ := answers_of_fail hs (exec_seed_of_empty hlen)
  obtain ⟨t, hxforms, ht, hsame'⟩ := answers_xforms_of_not_seeded msg hu (hsame.seeded.trans hseeded)
  have hall := hseed.trans hxforms
  have hblock := hsame.trans hsame'
  have hwait : s.NothingWaits := by simp [State.NothingWaits, hidle]
  refine ⟨t, ?_, ?_, hblock.gen, hblock.keybuf, hblock.keylen.trans hlen, hblock.seeded.trans hseeded, ht.offers⟩
  · simpa [Nat.add_comm] using hall.run
  · rw [ht.produced_eq_answered (hall.nothingWaits hwait), hall.answered, hs.produced_eq_answered hwait]
    rfl

end Sys2Proof.Machine

/-! SUPPORT. The register primitives of the generator, bit by bit (41_keystream_generator.md R54, R55). -/

namespace Sys2Proof.Machine

/-! ### shiftMask -/

/-- A mask of `k` low ones keeps the `k` low bits of the shifted register. -/
theorem shiftMask_getLsbD {m : Word} {k : Nat} (hm : m.toNat = 2 ^ k - 1) (x : Word) (i : Nat) :
    (shiftMask x m).getLsbD i = (decide (i < k) && x.getLsbD (i + 1)) := by
  have hmask : m.getLsbD i = decide (i < k) := by rw [BitVec.getLsbD, hm, Nat.testBit_two_pow_sub_one]
  rw [shiftMask, BitVec.getLsbD_and, BitVec.getLsbD_ushiftRight, hmask, Nat.add_comm 1 i, Bool.and_comm]

theorem shiftMask_zero (m : Word) : shiftMask 0 m = 0 := by simp [shiftMask]

/-- A shift of A is a plain shift: the mask clears the one bit that is 0 already (R54). -/
theorem shiftMask_truncConstA (x : Word) : shiftMask x truncConstA = x >>> 1 := by
  apply BitVec.eq_of_toNat_eq
  rw [shiftMask_truncConstA_toNat, BitVec.toNat_ushiftRight, Nat.shiftRight_eq_div_pow]

/-- Settles O22: each truncation mask is a number one less than a power of two. -/
theorem shiftMaskTruncates : Obligations.ShiftMaskTruncates :=
  ⟨fun _ _ => rfl,
    fun x i => ⟨shiftMask_getLsbD rfl x i, shiftMask_getLsbD rfl x i, shiftMask_getLsbD rfl x i⟩,
    shiftMask_zero⟩

/-! ### feedbackMask -/

theorem feedbackMask_getLsbD (x m f : Word) (i : Nat) :
    (feedbackMask x m f).getLsbD i = (xor (x.getLsbD i) (m.getLsbD (i + 1)) || f.getLsbD i) := by
  rw [feedbackMask, BitVec.getLsbD_or, BitVec.getLsbD_xor, BitVec.getLsbD_ushiftRight, Nat.add_comm 1 i]

/-- The second feedback undoes the first, but for the fixed bits. -/
theorem feedbackMask_feedbackMask (x m f : Word) : feedbackMask (feedbackMask x m f) m f = x ||| f := by
  apply BitVec.eq_of_getLsbD_eq
  intro i _
  rw [feedbackMask_getLsbD, feedbackMask_getLsbD, BitVec.getLsbD_or]
  cases f.getLsbD i <;> simp

/-- The feedback does not see the fixed bits of its operand. -/
theorem feedbackMask_or_fixed (x m f : Word) : feedbackMask (x ||| f) m f = feedbackMask x m f := by
  apply BitVec.eq_of_getLsbD_eq
  intro i _
  rw [feedbackMask_getLsbD, feedbackMask_getLsbD, BitVec.getLsbD_or]
  cases f.getLsbD i <;> simp

/-- Where the fixed bits leave bit 0 alone, the mask's bit 1 says whether the feedback flips it (R55). -/
theorem lowBit_feedbackMask {f : Word} (hf : lowBit f = false) (x m : Word) :
    lowBit (feedbackMask x m f) = xor (lowBit x) (m.getLsbD 1) := by
  unfold lowBit at hf ⊢
  rw [feedbackMask_getLsbD, hf, Bool.or_false]

theorem lowBit_feedback_regA (x : Word) : lowBit (feedbackMask x feedbackConstA fixedConstA) = !lowBit x :=
  (lowBit_feedbackMask rfl x feedbackConstA).trans (Bool.xor_true _)

theorem lowBit_feedback_regB (x : Word) : lowBit (feedbackMask x feedbackConstB fixedConstB) = lowBit x :=
  (lowBit_feedbackMask rfl x feedbackConstB).trans (Bool.xor_false _)

theorem lowBit_feedback_regC (x : Word) : lowBit (feedbackMask x feedbackConstC fixedConstC) = !lowBit x :=
  (lowBit_feedbackMask rfl x feedbackConstC).trans (Bool.xor_true _)

/-- Settles O23: the derived constants by computation, bit 0 by the mask's bit 1. -/
theorem feedbackMaskDoesNotShiftTheRegister : Obligations.FeedbackMaskDoesNotShiftTheRegister :=
  ⟨fun _ _ _ => rfl, fun x =>
    ⟨⟨rfl, lowBit_feedback_regA x⟩, ⟨rfl, lowBit_feedback_regB x⟩, ⟨rfl, lowBit_feedback_regC x⟩⟩⟩

end Sys2Proof.Machine

/-! SUPPORT. The stop/go clock step, one step and any number of them (41_keystream_generator.md R57, R59 items 3 to 6). -/

namespace Sys2Proof.Machine

/-- Settles O25: A's bit 0 picks the register that advances, that register's bit 0 its primitive. -/
theorem clockStepFollowsTheStopGoRule : Obligations.ClockStepFollowsTheStopGoRule := by
  refine fun g => ⟨fun ha hc => ?_, fun ha hc => ?_, fun ha hb => ?_, fun ha hb => ?_⟩
  · rw [g.clockStep_of_even ha, show lowBit g.regC = false from hc]; rfl
  · rw [g.clockStep_of_even ha, show lowBit g.regC = true from hc]; rfl
  · rw [g.clockStep_of_odd ha, show lowBit g.regB = false from hb]; rfl
  · rw [g.clockStep_of_odd ha, show lowBit g.regB = true from hb]; rfl

section
variable {g : GeneratorState}

/-! ### What a step does to each register and carry -/

theorem clockStep_regA_of_even (ha : lowBit g.regA = false) : g.clockStep.regA = g.regA >>> 1 := by
  rw [g.clockStep_of_even ha, shiftMask_truncConstA]

/-- A's bit 0 is never 1 at two steps in a row: the feedback has just cleared it. -/
theorem lowBit_clockStep_regA_of_odd (ha : lowBit g.regA = true) : lowBit g.clockStep.regA = false := by
  rw [g.clockStep_of_odd ha, lowBit_feedback_regA, ha]; rfl

theorem clockStep_regB_of_even (ha : lowBit g.regA = false) : g.clockStep.regB = g.regB := by
  rw [g.clockStep_of_even ha]

theorem clockStep_regB_of_odd (ha : lowBit g.regA = true) :
    g.clockStep.regB =
      if lowBit g.regB then feedbackMask g.regB feedbackConstB fixedConstB else shiftMask g.regB truncConstB := by
  rw [g.clockStep_of_odd ha]

theorem clockStep_regC_of_even (ha : lowBit g.regA = false) :
    g.clockStep.regC =
      if lowBit g.regC then feedbackMask g.regC feedbackConstC fixedConstC else shiftMask g.regC truncConstC := by
  rw [g.clockStep_of_even ha]

theorem clockStep_regC_of_odd (ha : lowBit g.regA = true) : g.clockStep.regC = g.regC := by
  rw [g.clockStep_of_odd ha]

theorem clockStep_carryB_of_even (ha : lowBit g.regA = false) : g.clockStep.carryB = g.carryB := by
  rw [g.clockStep_of_even ha]

theorem clockStep_carryB_of_odd (ha : lowBit g.regA = true) : g.clockStep.carryB = lowBit g.regB := by
  rw [g.clockStep_of_odd ha]

theorem clockStep_carryC_of_even (ha : lowBit g.regA = false) : g.clockStep.carryC = lowBit g.regC := by
  rw [g.clockStep_of_even ha]

theorem clockStep_carryC_of_odd (ha : lowBit g.regA = true) : g.clockStep.carryC = g.carryC := by
  rw [g.clockStep_of_odd ha]

end

/-- Settles O29: the feedback of A leaves bit 0 clear, so the next step is one of A's shifts. -/
theorem registerBNeverAdvancesTwiceInARow : Obligations.RegisterBNeverAdvancesTwiceInARow := by
  intro g ha
  have hnext : lowBit g.clockStep.regA = false := lowBit_clockStep_regA_of_odd ha
  exact ⟨hnext, clockStep_regA_of_even hnext, clockStep_regB_of_even hnext, clockStep_carryB_of_even hnext⟩

/-- Settles O30: by the same fact about one step. -/
theorem registerANeverBecomesZero : Obligations.RegisterANeverBecomesZero :=
  fun _ n ha => clockStep_iterate_regA_ne_zero n ha

/-! ### B and C at zero -/

section
variable {g : GeneratorState}

theorem clockStep_regB_of_zero (hb : g.regB = 0) : g.clockStep.regB = 0 := by
  cases ha : lowBit g.regA with
  | false => rw [clockStep_regB_of_even ha, hb]
  | true => rw [clockStep_regB_of_odd ha, hb]; exact shiftMask_zero _

theorem clockStep_regC_of_zero (hc : g.regC = 0) : g.clockStep.regC = 0 := by
  cases ha : lowBit g.regA with
  | false => rw [clockStep_regC_of_even ha, hc]; exact shiftMask_zero _
  | true => rw [clockStep_regC_of_odd ha, hc]

theorem clockStep_iterate_regB_of_zero (hb : g.regB = 0) (n : Nat) : (GeneratorState.clockStep^[n] g).regB = 0 :=
  Function.Iterate.rec (fun h : GeneratorState => h.regB = 0) hb (fun _ => clockStep_regB_of_zero) n

theorem clockStep_iterate_regC_of_zero (hc : g.regC = 0) (n : Nat) : (GeneratorState.clockStep^[n] g).regC = 0 :=
  Function.Iterate.rec (fun h : GeneratorState => h.regC = 0) hc (fun _ => clockStep_regC_of_zero) n

end

/-- Settles O32: a zero register only ever shifts, and a refreshed carry is its bit 0. -/
theorem zeroRegistersStayZero : Obligations.ZeroRegistersStayZero := by
  refine fun g n => ⟨fun hb => ?_, fun hc => ?_⟩
  · have hzero := clockStep_iterate_regB_of_zero hb n
    refine ⟨hzero, fun ha => ?_⟩
    rw [Function.iterate_succ_apply', clockStep_carryB_of_odd ha, hzero]; rfl
  · have hzero := clockStep_iterate_regC_of_zero hc n
    refine ⟨hzero, fun ha => ?_⟩
    rw [Function.iterate_succ_apply', clockStep_carryC_of_even ha, hzero]; rfl

/-! ### B locked -/

/-- The value B takes at its first advance from `x`, when bit 0 of `x` is 1. -/
def lockFirst (x : Word) : Word := feedbackMask x feedbackConstB fixedConstB

/-- The value B takes at its second. -/
def lockSecond (x : Word) : Word := x ||| fixedConstB

/-- What B can hold, once it was `x` with bit 0 of `x` at 1 (R59 item 5). -/
def LockedFrom (x y : Word) : Prop := y = x ∨ y = lockFirst x ∨ y = lockSecond x

/-- Bit 4 tells the two values apart. -/
theorem lockFirst_ne_lockSecond (x : Word) : lockFirst x ≠ lockSecond x := by
  intro h
  have hbit : (lockFirst x).getLsbD 4 = (lockSecond x).getLsbD 4 := by rw [h]
  rw [lockFirst, feedbackMask_getLsbD, lockSecond, BitVec.getLsbD_or,
    show feedbackConstB.getLsbD (4 + 1) = true from rfl, show fixedConstB.getLsbD 4 = false from rfl] at hbit
  simp at hbit

theorem lowBit_lockSecond (x : Word) : lowBit (lockSecond x) = lowBit x := by
  rw [lowBit, lockSecond, BitVec.getLsbD_or, show fixedConstB.getLsbD 0 = false from rfl, Bool.or_false, lowBit]

/-- The feedback of B alternates between the two values. -/
theorem LockedFrom.feedback_eq {x y : Word} (h : LockedFrom x y) :
    feedbackMask y feedbackConstB fixedConstB = if y = lockFirst x then lockSecond x else lockFirst x := by
  by_cases hy : y = lockFirst x
  · rw [if_pos hy, hy]
    exact feedbackMask_feedbackMask x feedbackConstB fixedConstB
  · rw [if_neg hy]
    obtain rfl | hfirst | rfl := h
    · rfl
    · exact absurd hfirst hy
    · exact feedbackMask_or_fixed x feedbackConstB fixedConstB

theorem LockedFrom.lowBit_eq {x y : Word} (h : LockedFrom x y) : lowBit y = lowBit x := by
  obtain rfl | rfl | rfl := h
  · rfl
  · exact lowBit_feedback_regB x
  · exact lowBit_lockSecond x

section
variable {x : Word} {g : GeneratorState} (hx : lowBit x = true) (h : LockedFrom x g.regB)
include hx h

theorem LockedFrom.clockStep_regB (ha : lowBit g.regA = true) :
    g.clockStep.regB = if g.regB = lockFirst x then lockSecond x else lockFirst x := by
  rw [clockStep_regB_of_odd ha, if_pos (h.lowBit_eq.trans hx), h.feedback_eq]

theorem LockedFrom.clockStep : LockedFrom x g.clockStep.regB := by
  cases ha : lowBit g.regA with
  | false => rw [clockStep_regB_of_even ha]; exact h
  | true =>
    rw [h.clockStep_regB hx ha]
    split
    · exact .inr (.inr rfl)
    · exact .inr (.inl rfl)

end

/-- Settles O31: the lock is kept by every step, and read off after any number of them. -/
theorem registerBLocksOnceItsLowBitIsSet : Obligations.RegisterBLocksOnceItsLowBitIsSet := by
  intro g n hb v1 v2 h
  have hlock : LockedFrom g.regB h.regB :=
    Function.Iterate.rec (fun u : GeneratorState => LockedFrom g.regB u.regB) (.inl rfl) (fun _ hu => hu.clockStep hb) n
  refine ⟨hlock, lockFirst_ne_lockSecond g.regB, fun ha => ⟨?_, hlock.clockStep_regB hb ha⟩, clockStep_regB_of_even⟩
  rw [clockStep_carryB_of_odd ha, hlock.lowBit_eq]
  exact hb

end Sys2Proof.Machine

/-! SUPPORT. The keystream byte, bit by bit (41_keystream_generator.md R56, R58, R59 items 1, 2 and 6). -/

namespace Sys2Proof.Machine

/-- Settles O24: the capture overwrites both carries. -/
theorem captureLoadsBothCarries : Obligations.CaptureLoadsBothCarries :=
  fun _ => ⟨rfl, fun _ _ _ => rfl⟩

/-! ### The bits of the accumulator -/

theorem accumulate_getLsbD_zero (acc : Byte) (bit : Bool) : (accumulate acc bit).getLsbD 0 = bit := by
  simp [accumulate]

theorem accumulate_getLsbD_succ (acc : Byte) (bit : Bool) {j : Nat} (hj : j + 1 < 8) :
    (accumulate acc bit).getLsbD (j + 1) = acc.getLsbD j := by
  simp [accumulate, hj, BitVec.getLsbD_eq_getElem (show j < 8 by omega)]

/-- The keystream bit made at step `i`, counted from 0, of the clock steps from `g` (R58). -/
def stepBit (t : BitTiming) (g : GeneratorState) (i : Nat) : Bool :=
  keystreamBit t (GeneratorState.clockStep^[i] g) (GeneratorState.clockStep^[i + 1] g)

theorem stepBit_clockStep (t : BitTiming) (g : GeneratorState) (i : Nat) :
    stepBit t g.clockStep i = stepBit t g (i + 1) := rfl

/-- After `n` steps the accumulator holds their bits, the last one lowest, and above them the bits it held before. -/
theorem clockLoop_getLsbD (t : BitTiming) (n : Nat) (acc : Byte) (g : GeneratorState) {j : Nat} (hj : j < 8) :
    (clockLoop t n acc g).1.getLsbD j = if j < n then stepBit t g (n - 1 - j) else acc.getLsbD (j - n) := by
  induction n generalizing acc g with
  | zero => rfl
  | succ n ih =>
    rw [clockLoop, ih, stepBit_clockStep]
    obtain hlt | rfl | hgt := Nat.lt_trichotomy j n
    · rw [if_pos hlt, if_pos (by omega), show n - 1 - j + 1 = n + 1 - 1 - j by omega]
    · rw [if_neg (by omega), if_pos (by omega), Nat.sub_self, accumulate_getLsbD_zero,
        show j + 1 - 1 - j = 0 by omega]
      rfl
    · rw [if_neg (by omega), if_neg (by omega), show j - n = j - (n + 1) + 1 by omega,
        accumulate_getLsbD_succ _ _ (by omega)]

/-- The keystream bit made at step `i` lands in bit `7 - i` of the byte (R58). -/
theorem nextByte_getLsbD (t : BitTiming) (g : GeneratorState) {i : Nat} (hi : i < 8) :
    (nextByte t g).1.getLsbD (7 - i) = stepBit t g.capture i := by
  rw [nextByte, clockLoop_getLsbD t 8 0x00 g.capture (by omega), if_pos (by omega), show 8 - 1 - (7 - i) = i by omega]

theorem nextByte_state (t : BitTiming) (g : GeneratorState) :
    (nextByte t g).2 = GeneratorState.clockStep^[8] g.capture := clockLoop_state t 8 0x00 g.capture

/-- Settles O26: the accumulator's bits, and the example from the reset state whatever its carries. -/
theorem keystreamByteIsEightClockSteps : Obligations.KeystreamByteIsEightClockSteps := by
  refine ⟨fun g i hi => ⟨nextByte_getLsbD .endOfStep g hi, nextByte_getLsbD .startOfStep g hi⟩, nextByte_state,
    fun b c => ?_⟩
  obtain ⟨-, hcarries⟩ := captureLoadsBothCarries GeneratorState.reset
  refine (hcarries .endOfStep b c).trans ?_
  decide

/-! ### The two timings -/

/-- The first step refreshes one carry to the value that the capture has just loaded. -/
theorem clockStep_carryXor_capture (g : GeneratorState) : g.capture.clockStep.carryXor = g.capture.carryXor := by
  unfold GeneratorState.carryXor
  cases ha : lowBit g.capture.regA with
  | false => rw [clockStep_carryB_of_even ha, clockStep_carryC_of_even ha]; rfl
  | true => rw [clockStep_carryB_of_odd ha, clockStep_carryC_of_odd ha]; rfl

theorem stepBit_capture_zero (t : BitTiming) (g : GeneratorState) : stepBit t g.capture 0 = g.capture.carryXor := by
  cases t with
  | endOfStep => exact clockStep_carryXor_capture g
  | startOfStep => rfl

/-- The carries before a step are the carries after the step before it. -/
theorem stepBit_startOfStep_succ (g : GeneratorState) (i : Nat) :
    stepBit .startOfStep g (i + 1) = stepBit .endOfStep g i := rfl

/-- Settles O27: the first bit is that of the captured carries. -/
theorem firstKeystreamBitIsKnownBefore : Obligations.FirstKeystreamBitIsKnownBefore :=
  fun t g => (nextByte_getLsbD t g (i := 0) (by decide)).trans (stepBit_capture_zero t g)

/-- `0x80` is the mask of bit 7. -/
theorem topBitMask_getLsbD {j : Nat} (hj : j < 8) : (0x80 : Byte).getLsbD j = decide (j = 7) := by
  revert j; decide

/-- Settles O28: bit 7 is the same under both timings, and each lower START bit is the END bit above it. -/
theorem startByteFollowsFromEndByte : Obligations.StartByteFollowsFromEndByte := by
  refine fun g => ⟨BitVec.eq_of_getLsbD_eq fun j hj => ?_, by rw [nextByte_state, nextByte_state]⟩
  rw [BitVec.getLsbD_or, BitVec.getLsbD_ushiftRight, BitVec.getLsbD_and, topBitMask_getLsbD hj]
  by_cases htop : j = 7
  · subst htop
    rw [firstKeystreamBitIsKnownBefore, firstKeystreamBitIsKnownBefore, BitVec.getLsbD_of_ge _ (1 + 7) (by decide)]
    simp
  · have hstart := nextByte_getLsbD .startOfStep g (i := 6 - j + 1) (by omega)
    have hend := nextByte_getLsbD .endOfStep g (i := 6 - j) (by omega)
    rw [show 7 - (6 - j + 1) = j by omega] at hstart
    rw [show 7 - (6 - j) = 1 + j by omega] at hend
    rw [hstart, hend, stepBit_startOfStep_succ]
    simp [htop]

/-! ### The zero keystream -/

/-- B and C are zero, and with them both carries. -/
structure GeneratorState.Silent (g : GeneratorState) : Prop where
  regB : g.regB = 0
  regC : g.regC = 0
  carryB : g.carryB = false
  carryC : g.carryC = false

theorem GeneratorState.Silent.clockStep {g : GeneratorState} (h : g.Silent) : g.clockStep.Silent where
  regB := clockStep_regB_of_zero h.regB
  regC := clockStep_regC_of_zero h.regC
  carryB := by
    cases ha : lowBit g.regA with
    | false => rw [clockStep_carryB_of_even ha, h.carryB]
    | true => rw [clockStep_carryB_of_odd ha, h.regB]; rfl
  carryC := by
    cases ha : lowBit g.regA with
    | false => rw [clockStep_carryC_of_even ha, h.regC]; rfl
    | true => rw [clockStep_carryC_of_odd ha, h.carryC]

theorem GeneratorState.Silent.iterate {g : GeneratorState} (h : g.Silent) (n : Nat) :
    (GeneratorState.clockStep^[n] g).Silent :=
  Function.Iterate.rec GeneratorState.Silent h (fun _ => GeneratorState.Silent.clockStep) n

theorem GeneratorState.Silent.carryXor {g : GeneratorState} (h : g.Silent) : g.carryXor = false := by
  rw [GeneratorState.carryXor, h.carryB, h.carryC]; rfl

theorem GeneratorState.Silent.stepBit {g : GeneratorState} (h : g.Silent) (t : BitTiming) (i : Nat) :
    stepBit t g i = false := by
  cases t with
  | endOfStep => exact (h.iterate (i + 1)).carryXor
  | startOfStep => exact (h.iterate i).carryXor

section
variable {g : GeneratorState} (hb : g.regB = 0) (hc : g.regC = 0)
include hb hc

theorem silent_capture : g.capture.Silent where
  regB := hb
  regC := hc
  carryB := by rw [GeneratorState.capture_carryB, hb]; rfl
  carryC := by rw [GeneratorState.capture_carryC, hc]; rfl

theorem nextByte_of_zero_regs (t : BitTiming) : (nextByte t g).1 = 0x00 := by
  apply BitVec.eq_of_getLsbD_eq
  intro j hj
  have hbit := nextByte_getLsbD t g (i := 7 - j) (by omega)
  rw [show 7 - (7 - j) = j by omega] at hbit
  rw [hbit, (silent_capture hb hc).stepBit]
  exact BitVec.getLsbD_zero.symm

theorem advanceBytes_of_zero_regs (t : BitTiming) (n : Nat) :
    (advanceBytes t n g).regB = 0 ∧ (advanceBytes t n g).regC = 0 := by
  induction n with
  | zero => exact ⟨hb, hc⟩
  | succ n ih =>
    obtain ⟨hb', hc'⟩ := ih
    have hsilent := (silent_capture hb' hc').iterate 8
    rw [advanceBytes_succ, nextByte_state]
    exact ⟨hsilent.regB, hsilent.regC⟩

end

/-- A generator state with both carries 0, as the seeding and the bytes of V7 leave it. -/
def zeroCarries (a b c : Word) : GeneratorState :=
  { regA := a, regB := b, regC := c, carryB := false, carryC := false }

/-- The one set bit of the degenerate key of V7 in all three registers. -/
def degenerateSeed : GeneratorState := zeroCarries 0x80000000 0x80000000 0x80000000

theorem sourceSeed_degenerateKey :
    sourceSeed .zero [0x00, 0x00, 0x00, 0x00, 0x80, 0x00, 0x00, 0x00] = degenerateSeed := by decide

/-- The four bytes of V7 until B and C are zero. -/
theorem nextByte_from_degenerateSeed (t : BitTiming) :
    nextByte t degenerateSeed = (0x00, zeroCarries 0x00800000 0x80000000 0) ∧
    nextByte t (zeroCarries 0x00800000 0x80000000 0) = (0x00, zeroCarries 0x00008000 0x80000000 0) ∧
    nextByte t (zeroCarries 0x00008000 0x80000000 0) = (0x00, zeroCarries 0x00000080 0x80000000 0) ∧
    nextByte t (zeroCarries 0x00000080 0x80000000 0) = (0x00, zeroCarries 0xc0000030 0 0) := by
  cases t <;> decide

theorem keystreamAt_degenerateSeed (t : BitTiming) {n : Nat} (hn : n < 4) : keystreamAt t degenerateSeed n = 0x00 := by
  obtain ⟨hbyte0, hbyte1, hbyte2, hbyte3⟩ := nextByte_from_degenerateSeed t
  interval_cases n <;> simp only [keystreamAt, advanceBytes, hbyte0, hbyte1, hbyte2, hbyte3]

theorem advanceBytes_four_degenerateSeed (t : BitTiming) :
    advanceBytes t 4 degenerateSeed = zeroCarries 0xc0000030 0 0 := by
  obtain ⟨hbyte0, hbyte1, hbyte2, hbyte3⟩ := nextByte_from_degenerateSeed t
  simp only [advanceBytes, hbyte0, hbyte1, hbyte2, hbyte3]

/-- Settles O33: four bytes by computation, and from there B and C stay zero. -/
theorem degenerateKeyYieldsAZeroKeystream : Obligations.DegenerateKeyYieldsAZeroKeystream := by
  intro t n
  rw [sourceSeed_degenerateKey]
  have hregs (hn : 4 ≤ n) : (advanceBytes t n degenerateSeed).regB = 0 ∧ (advanceBytes t n degenerateSeed).regC = 0 := by
    obtain ⟨m, rfl⟩ := Nat.exists_eq_add_of_le hn
    rw [advanceBytes_add, advanceBytes_four_degenerateSeed]
    exact advanceBytes_of_zero_regs rfl rfl t m
  refine ⟨?_, hregs⟩
  obtain hn | hn := Nat.lt_or_ge n 4
  · exact keystreamAt_degenerateSeed t hn
  · obtain ⟨hb, hc⟩ := hregs hn
    exact nextByte_of_zero_regs hb hc t

end Sys2Proof.Machine

/-! SUPPORT. XFORM on one byte (42_transform.md R61): its answers, seeded and not, and what the data cannot change. -/

namespace Sys2Proof.Machine

theorem outputByte_zero (k : Byte) : outputByte 0x00 k = k := BitVec.zero_xor

theorem outputByte_self (k : Byte) : outputByte k k = 0x00 := BitVec.xor_self

/-- R64 item 1 for one byte. -/
theorem outputByte_outputByte (v k : Byte) : outputByte (outputByte v k) k = v := by
  rw [outputByte, outputByte, BitVec.xor_assoc, BitVec.xor_self, BitVec.xor_zero]

/-- Settles O34: XFORM by its meaning, the generator by the 8 clock steps of a byte. -/
theorem xformTransformsOneByte : Obligations.XformTransformsOneByte := by
  refine fun v => ⟨rfl, fun s hseeded => exec_xform_of_not_seeded v hseeded, fun s hseeded => ?_⟩
  rw [exec_xform_of_seeded v hseeded, State.advance, nextByte_state]
  rfl

/-- Settles O35: the operand stands in the response alone. -/
theorem keystreamDoesNotDependOnTheData : Obligations.KeystreamDoesNotDependOnTheData := by
  intro s hseeded u v
  refine ⟨_, _, s.keystreamByte thisHardware, exec_xform_of_seeded u hseeded, exec_xform_of_seeded v hseeded,
    rfl, rfl, rfl, ?_, ?_⟩
  · rw [keystreamRead, execAll_singleton (exec_xform_of_seeded 0x00 hseeded), outputByte_zero]
    rfl
  · rw [exec_xform_of_seeded _ hseeded, outputByte_self]
    rfl

end Sys2Proof.Machine

/-! SUPPORT. The source's transform as a function of the message (42_transform.md R62, R64 items 1 and 3). -/

namespace Sys2Proof.Machine

/-- Byte `j` of a transformed message meets byte `j` of the keystream (R62). -/
theorem transformFrom_getElem? (t : BitTiming) (g : GeneratorState) (msg : List Byte) (j : Nat) :
    (transformFrom t g msg)[j]? = msg[j]?.map (outputByte · (keystreamAt t g j)) := by
  induction msg generalizing g j with
  | nil => rfl
  | cons m ms ih =>
    cases j with
    | zero => rfl
    | succ j => exact ih (nextByte t g).2 j

/-- The second pass meets the same keystream, because the generator does not see the data (R64 item 1). -/
theorem transformFrom_transformFrom (t : BitTiming) (g : GeneratorState) (msg : List Byte) :
    transformFrom t g (transformFrom t g msg) = msg := by
  induction msg generalizing g with
  | nil => rfl
  | cons m ms ih => rw [transformFrom, transformFrom, outputByte_outputByte, ih]

/-- Settles O37: the transform runs from the source's seeding. -/
theorem transformIsBytewiseXor : Obligations.TransformIsBytewiseXor :=
  fun cfg key msg j => transformFrom_getElem? cfg.bitTiming (sourceSeed cfg.seedFill key) msg j

/-- Settles O38: both passes run from the same seeding. -/
theorem transformIsAnInvolution : Obligations.TransformIsAnInvolution :=
  fun _ _ msg => ⟨transformFrom_transformFrom _ _ msg, transformFrom_length _ _ msg⟩

end Sys2Proof.Machine

/-! SUPPORT. Any words at all on a block that is not seeded (42_transform.md R61, 70_reset_and_hazards.md R83): while no SEED
meets a loaded key, no XFORM succeeds. -/

namespace Sys2Proof.Machine

/-! ### One word -/

/-- Only a SEED with a loaded key seeds a block or touches the generator of one that is not seeded (R24). -/
theorem exec_keeps_unseeded {i : Instr} {s t : State} (hseeded : s.seeded = false) (hseed : i = .seed → s.keylen = 0)
    (hexec : exec i s = .next t) : t.seeded = false ∧ t.gen = s.gen := by
  obtain ⟨hgen, -, -, hsets, -⟩ := onlyTheNamedCommandsWriteAnElement i s t hexec
  constructor
  · by_contra hset
    obtain ⟨hi, hlen⟩ := hsets hseeded (Bool.eq_true_of_not_eq_false hset)
    exact hlen (hseed hi)
  · by_contra htouched
    obtain ⟨hi, hlen⟩ | ⟨-, hset⟩ := hgen htouched
    · exact hlen (hseed hi)
    · simp [hseeded] at hset

/-- The response to a word is NOT_SEEDED if the word is an XFORM. -/
def XformFails (w : CmdWord) (r : RspWord) : Prop := ∀ v, w = encode (.xform v) → r = 0x300

/-- What any word can do on a block that is not seeded, if it is no SEED with a loaded key. -/
theorem runWord_keeps_unseeded {w : CmdWord} {s : State} (hseeded : s.seeded = false)
    (hseed : w = encode .seed → s.keylen = 0) :
    ∃ t r, runWord w s = .next t ∧ t.outstanding = some { word := r, wait := 0 } ∧ XformFails w r ∧
      t.seeded = false ∧ t.gen = s.gen := by
  obtain ⟨i, hdecode, hrun⟩ | ⟨e, hdecode, hrun⟩ := runWord_cases w s
  · obtain rfl := decode_eq_ok_iff.mp hdecode
    obtain ⟨t, r, hexec, hr⟩ := exec_answers i s
    have hseed' : i = .seed → s.keylen = 0 := fun hi => hseed (congrArg encode hi)
    refine ⟨t, r, hrun.trans hexec, hr, fun v hv => ?_, exec_keeps_unseeded hseeded hseed' hexec⟩
    rw [hv, runWord_encode, exec_xform_of_not_seeded v hseeded] at hrun
    cases hrun.trans hexec
    cases hr
    rfl
  · refine ⟨_, _, hrun, rfl, fun v hv => ?_, hseeded, rfl⟩
    rw [hv, decode_encode] at hdecode
    cases hdecode

/-! ### Any number of words -/

/-- No SEED among the words meets a loaded key in the run from `s`. -/
def SeedsFindNoKey (s : State) (ws : List CmdWord) : Prop :=
  ∀ (before after : List CmdWord) (u : State), ws = before ++ encode .seed :: after →
    Sys2Proof.core.run before.length s = .next u → u.keylen = 0

theorem SeedsFindNoKey.head {s : State} {w : CmdWord} {ws : List CmdWord} (h : SeedsFindNoKey s (w :: ws)) :
    w = encode .seed → s.keylen = 0 := by
  rintro rfl
  exact h [] ws s rfl rfl

theorem SeedsFindNoKey.tail {s t : State} {w : CmdWord} {ws : List CmdWord} (h : SeedsFindNoKey s (w :: ws))
    (hrun : Sys2Proof.core.run 1 s = .next t) : SeedsFindNoKey t ws := by
  intro before after u hws hu
  refine h (w :: before) after u (by rw [hws]; rfl) ?_
  rw [List.length_cons, Nat.add_comm, run_add _ _ hrun, hu]

/-- The run of the words: the block stays unseeded and its generator as it was, and every XFORM fails. -/
theorem answers_of_not_seeded (ws : List CmdWord) {s : State} {rest : List CmdWord} (hs : s.HostOffers (ws ++ rest))
    (hseeded : s.seeded = false) (hseeds : SeedsFindNoKey s ws) :
    ∃ (t : State) (rs : List RspWord), Answers s rs t ∧ t.HostOffers rest ∧ List.Forall₂ XformFails ws rs ∧
      t.seeded = false ∧ t.gen = s.gen := by
  induction ws generalizing s with
  | nil => exact ⟨s, [], .refl s, hs, .nil, hseeded, rfl⟩
  | cons w ws ih =>
    obtain ⟨u, r, hrun, hr, hfails, hseeded', hgen⟩ :=
      runWord_keeps_unseeded (s := s.accepting (ws ++ rest)) hseeded hseeds.head
    obtain ⟨hans, hu⟩ := answers_of_runWord hs hrun hr
    obtain ⟨t, rs, hans', ht, hfails', hseeded'', hgen'⟩ := ih hu hseeded' (hseeds.tail hans.run)
    exact ⟨t, r :: rs, hans.trans hans', ht, .cons hfails hfails', hseeded'', hgen'.trans hgen⟩

/-- The response at the position of an XFORM among the words. -/
theorem forall₂_xformFails_getElem? {ws : List CmdWord} {rs : List RspWord} (h : List.Forall₂ XformFails ws rs)
    {k : Nat} {v : Byte} (hk : ws[k]? = some (encode (.xform v))) : rs[k]? = some 0x300 := by
  induction h generalizing k with
  | nil => cases hk
  | cons hfails _ ih =>
    cases k with
    | zero => exact congrArg some (hfails v (Option.some.inj hk))
    | succ k => exact ih hk

/-- Settles O36: the run of the words, and a further XFORM by its meaning. -/
theorem noTransformWithoutASeed : Obligations.NoTransformWithoutASeed := by
  intro s ws rest hseeded hrst hready hoffers hseeds
  obtain ⟨t, rs, hans, ht, hfails, hseeded', hgen⟩ :=
    answers_of_not_seeded ws ⟨hrst, hready, hoffers⟩ hseeded hseeds
  refine ⟨t, ?_, ht.offers, hseeded', hgen, fun k v hk => ?_, fun hwait => ?_,
    fun v => exec_xform_of_not_seeded v hseeded'⟩
  · rw [hfails.length_eq, hans.run]
  · rw [hans.answered, List.getElem?_append_right (Nat.le_add_right _ _), Nat.add_sub_cancel_left]
    exact forall₂_xformFails_getElem? hfails hk
  · exact ht.produced_eq_answered (hans.nothingWaits hwait)

end Sys2Proof.Machine

/-! SUPPORT. NOP (43_system.md R65): the response it leaves is nothing an XFORM after it reads. -/

namespace Sys2Proof.Machine

/-- XFORM reads no outstanding response and leaves its own, whether it transforms or fails (R61). -/
theorem exec_xform_respond (v : Byte) (s : State) (st : Status) (d : Byte) :
    exec (.xform v) (s.respond st d) = exec (.xform v) s := by
  cases hseeded : s.seeded with
  | false =>
    rw [exec_xform_of_not_seeded v hseeded, exec_xform_of_not_seeded (s := s.respond st d) v hseeded]
    rfl
  | true =>
    rw [exec_xform_of_seeded v hseeded, exec_xform_of_seeded (s := s.respond st d) v hseeded]
    rfl

/-- An XFORM after a NOP does what it does without the NOP, whatever commands follow (R65). -/
theorem execAll_nop_xform (v : Byte) (is : List Instr) (s : State) :
    execAll (.nop :: .xform v :: is) s = execAll (.xform v :: is) s := by
  obtain ⟨t, -, hxform, -⟩ := exec_answers (.xform v) s
  rw [execAll_cons (exec_nop s), execAll_cons hxform, execAll_cons ((exec_xform_respond v s .ok 0x00).trans hxform)]

/-- Settles O11: NOP by its meaning, and the first XFORM leaves a state on which the NOP goes unnoticed. -/
theorem nopOnlyResponds : Obligations.NopOnlyResponds := by
  refine ⟨rfl, fun imm himm => ?_, fun s => exec_nop s, fun s u v => ?_⟩
  · rw [decode_nop_fields, bareCommand_fields_toOption_eq_none himm]
  · obtain ⟨t, -, hxform, -⟩ := exec_answers (.xform u) s
    rw [execAll_cons hxform, execAll_cons hxform, execAll_nop_xform v [] t]

end Sys2Proof.Machine

/-! SUPPORT. The idle block (60_exceptions.md R77): a step and an edge each come down to accepting an offer, and none is made. -/

namespace Sys2Proof.Machine

/-- A step of a block with nothing outstanding and nothing offered (R77). -/
theorem step_of_no_offer {s : State} (hr : s.rst = false) (ho : s.outstanding = none) (hoffers : s.offers = []) :
    step s = .next s :=
  calc
    step s = acceptOffer s := step_of_idle hr ho
    _ = .next s := acceptOffer_nil hoffers

/-- An edge of a block with nothing outstanding and nothing offered (R77). -/
theorem clockEdge_of_no_offer {s : State} (hr : s.rst = false) (ho : s.outstanding = none) (hoffers : s.offers = []) :
    clockEdge s = .next s :=
  calc
    clockEdge s = acceptAtEdge s := clockEdge_of_idle hr ho
    _ = .next s := acceptAtEdge_nil hoffers

/-- Settles O51: with no word to accept, the step and the edge both leave the state. -/
theorem idleBlockKeepsItsState : Obligations.IdleBlockKeepsItsState :=
  fun _ hr ho hoffers => ⟨step_of_no_offer hr ho hoffers, clockEdge_of_no_offer hr ho hoffers⟩

end Sys2Proof.Machine

/-! SUPPORT. Two messages with no SEED between them (70_reset_and_hazards.md R81): the runs of their XFORMs, joined. -/

namespace Sys2Proof.Machine

/-- The XFORMs of two messages, one after the other: the second meets the keystream from where the first left it (R81). -/
theorem answers_xforms_twice (m1 m2 : List Byte) {s : State} {rest : List CmdWord}
    (hs : s.HostOffers ((m1.map .xform).map encode ++ ((m2.map .xform).map encode ++ rest))) (hseeded : s.seeded = true) :
    ∃ t : State,
      Answers s
        ((transformFrom thisHardware.bitTiming s.gen m1).map (fun b => (0b00#2 ++ b : RspWord)) ++
          (transformFrom thisHardware.bitTiming (advanceBytes thisHardware.bitTiming m1.length s.gen) m2).map
            (fun b => (0b00#2 ++ b : RspWord))) t ∧
      t.HostOffers rest ∧ t.gen = advanceBytes thisHardware.bitTiming (m1.length + m2.length) s.gen ∧
      t.keybuf = s.keybuf ∧ t.keylen = s.keylen ∧ t.seeded = true := by
  obtain ⟨u, hfirst, hu, hgen, hbuf, hlen, hseeded'⟩ := answers_xforms m1 hs hseeded
  obtain ⟨t, hsecond, ht, hgen', hbuf', hlen', hseeded''⟩ := answers_xforms m2 hu hseeded'
  rw [hgen] at hsecond hgen'
  exact ⟨t, hfirst.trans hsecond, ht, by rw [hgen', advanceBytes_add], hbuf'.trans hbuf, hlen'.trans hlen, hseeded''⟩

/-- Settles O39: the two runs answer one response per byte, produced when no response waits. -/
theorem messagesWithoutReseedAreOneStream : Obligations.MessagesWithoutReseedAreOneStream := by
  intro s m1 m2 rest hseeded hrst hready hoffers
  have hs : s.HostOffers ((m1.map .xform).map encode ++ ((m2.map .xform).map encode ++ rest)) :=
    ⟨hrst, hready, by simp [hoffers, Function.comp_def]⟩
  obtain ⟨t, hans, ht, hgen, hbuf, hlen, hseeded'⟩ := answers_xforms_twice m1 m2 hs hseeded
  refine ⟨t, ?_, ht.offers, ?_, fun hwait => ht.produced_eq_answered (hans.nothingWaits hwait), hgen, hbuf, hlen, hseeded'⟩
  · simpa using hans.run
  · rw [hans.answered, ← List.append_assoc]
    rfl

end Sys2Proof.Machine

/-! SUPPORT. A response the host withholds (70_reset_and_hazards.md R84, R87): steps and edges run down its wait for
`rsp_valid` and do nothing else. -/

namespace Sys2Proof.Machine

theorem State.setWait_of_outstanding {s : State} {o : Outstanding} (ho : s.outstanding = some o) (n : Nat) :
    s.setWait n = { s with outstanding := some { o with wait := n } } := by
  simp [State.setWait, ho]

theorem State.setWait_outstanding_of_some {s : State} {o : Outstanding} (ho : s.outstanding = some o) (n : Nat) :
    (s.setWait n).outstanding = some { o with wait := n } := by
  simp [ho]

theorem run_of_fixed {s : State} (h : step s = .next s) (n : Nat) : Sys2Proof.core.run n s = .next s := by
  induction n with
  | zero => rfl
  | succ n ih => rw [run_succ_of_step n h, ih]

section
variable {s : State} {o : Outstanding} (hr : s.rst = false) (ho : s.outstanding = some o) (hy : s.rspReady = false)
include hr ho hy

/-- The first step ends the wait, and every later one changes nothing (R84). -/
theorem run_succ_of_withheld (n : Nat) : Sys2Proof.core.run (n + 1) s = .next (s.setWait 0) := by
  have hwaited := State.setWait_outstanding_of_some ho 0
  have hfixed : step (s.setWait 0) = .next (s.setWait 0) := by
    rw [step_of_withheld (s := s.setWait 0) hr hwaited hy, State.setWait_setWait]
  rw [run_succ_of_step n (step_of_withheld hr ho hy), run_of_fixed hfixed n]

/-- The edges take the wait down to 0, and every later one changes nothing (R33 item 4, R84). -/
theorem clockEdges_of_withheld (n : Nat) : clockEdges n s = .next (s.setWait (o.wait - n)) := by
  obtain hn | hn := le_total n o.wait
  · exact clockEdges_of_waiting hr ho hn
  · obtain ⟨k, rfl⟩ := Nat.exists_eq_add_of_le hn
    have hwaited := State.setWait_outstanding_of_some ho 0
    rw [clockEdges_add k (clockEdges_of_pending hr ho), Nat.sub_eq_zero_of_le hn]
    exact clockEdges_of_fixed (clockEdge_of_withheld (s := s.setWait 0) hr hwaited rfl hy) k

end

/-- Settles O50: the state only loses its wait, and with any wait left the response is outstanding and not produced. -/
theorem withheldResponseStopsTheBlock : Obligations.WithheldResponseStopsTheBlock := by
  refine fun s o hr ho hy n => ⟨?_, ?_, fun k => ⟨State.cmdReady_eq_false_of_outstanding rfl, ?_⟩⟩
  · rw [run_succ_of_withheld hr ho hy, State.setWait_of_outstanding ho]
  · rw [clockEdges_of_withheld hr ho hy, State.setWait_of_outstanding ho]
  · exact State.observation_of_withheld _ { o with wait := k } hy rfl

end Sys2Proof.Machine

/-! SUPPORT. Reset from any state (70_reset_and_hazards.md R78, R79): the levels of the ports under it and after it. -/

namespace Sys2Proof.Machine

theorem State.cmdReady_eq_false_of_rst {s : State} (hr : s.rst = true) : s.cmdReady = false := by
  simp [State.cmdReady, hr]

theorem State.rspValid_eq_false_of_rst {s : State} (hr : s.rst = true) : s.rspValid = false := by
  simp [State.rspValid, State.rspWord, hr]

theorem State.rspValid_eq_false_of_idle {s : State} (ho : s.outstanding = none) : s.rspValid = false := by
  cases hr : s.rst <;> simp [State.rspValid, State.rspWord, hr, ho]

/-- Settles O45: step and edge both apply the reset, which leaves nothing outstanding. -/
theorem resetTakesEveryStateToTheResetValues : Obligations.ResetTakesEveryStateToTheResetValues :=
  fun s hr => ⟨State.cmdReady_eq_false_of_rst hr, State.rspValid_eq_false_of_rst hr, s.applyReset, step_of_rst hr,
    clockEdge_of_rst hr, rfl, (State.cmdReady_eq_true_iff _).mpr ⟨rfl, rfl⟩, State.rspValid_eq_false_of_idle rfl⟩

end Sys2Proof.Machine
